-- ==== Sys2Proof/Word.lean ====
section
/-! DEFINITION. The word types of the Dorpen 2610: the sizes in which the manual sends and keeps numbers. -/

namespace Sys2Proof

/-- One byte of a frame (R144). -/
abbrev Byte := BitVec 8

/-- A two-byte field: a detail, a counter, a check value (R145, R166). -/
abbrev Half := BitVec 16

/-- A four-byte field: the uptime and every recorded time (R135, R166). -/
abbrev Word := BitVec 32

end Sys2Proof
end

