-- ==== Sys2Proof/Syntax.lean ====
section
/-! DEFINITION. The commands of the block: one constructor per row of spec/opcode_table.json, with the
row's operands, and the names of the things the operands speak of. -/

namespace Sys2Proof

/-- Slot n of the manual, 1 to 6, is index n - 1. -/
abbrev SlotId := Fin 6

/-- Event entry 0 to 59 (R1). -/
abbrev EntryId := Fin 60

/-- General event line GEI0 to GEI11. -/
abbrev GeiLine := Fin 12

/-- General timer n of the manual, 1 to 4, is index n - 1. -/
abbrev TimerId := Fin 4

/-- The two notice channels. -/
inductive ChannelId where
  | priority
  | routine
deriving DecidableEq, Repr

/-- The input pins whose level the outside sets, less STBY and RESET_N, which have rows of their own
(00_scope section 6). -/
inductive Pin where
  | gei (n : GeiLine)
  | mainGood
  | therm
  | wake (slot : SlotId)
  | alert (slot : SlotId)
  | slpReq (slot : SlotId)
  | btn (slot : SlotId)
  | present (slot : SlotId)
  | hbeat (slot : SlotId)
  | act (slot : SlotId)
  | rdy (slot : SlotId)
  | pgood (slot : SlotId)
  | rxd
  | lrate1
  | lrate0
  | autostart
deriving DecidableEq, Repr

/-- The requests of the table of section 10.2. -/
inductive ReqCode where
  | hello | status | restart
  | eventConfig | eventRead | eventList | eventClear | eventPost | inputConfig | inputRead
  | channelOpen | channelClose | accept | settle
  | slotConfig | slotRead | slotOn | slotStop | slotCut | slotSleep | slotWake | slotReset
  | slotVerdict | slotHold | slotUnhold | slotKick | slotFaultClear | slotRecoveryClear
  | stageConfig | stageRead | shedConfig
  | timerStart | timerStop | timerRead
deriving DecidableEq, Repr

/-- The commands. A host request carries its SEQ and the payload bytes that follow the request code
(`args`), so that a request of the wrong length or with a value out of range is a command too (log 1).
A line's level is given in the asserted sense (section 1.3), RXD's and a strap's as high. -/
inductive Instr where
  /-- HELLO (R162). -/
  | hello (seq : Byte) (args : List Byte)
  /-- A request whose code is unknown, or whose LEN is 0 (R167): the whole payload. -/
  | badCodeRequest (seq : Byte) (payload : List Byte)
  /-- STATUS (R163). -/
  | status (seq : Byte) (args : List Byte)
  /-- RESTART (R164). -/
  | restart (seq : Byte) (args : List Byte)
  /-- EVENT_CONFIG (R19). -/
  | eventConfig (seq : Byte) (args : List Byte)
  /-- EVENT_READ (R18). -/
  | eventRead (seq : Byte) (args : List Byte)
  /-- EVENT_LIST (R20). -/
  | eventList (seq : Byte) (args : List Byte)
  /-- EVENT_CLEAR (R22). -/
  | eventClear (seq : Byte) (args : List Byte)
  /-- EVENT_POST (R141). -/
  | eventPost (seq : Byte) (args : List Byte)
  /-- INPUT_CONFIG (R21). -/
  | inputConfig (seq : Byte) (args : List Byte)
  /-- INPUT_READ (R23). -/
  | inputRead (seq : Byte) (args : List Byte)
  /-- CHANNEL_OPEN (R42). -/
  | channelOpen (seq : Byte) (args : List Byte)
  /-- CHANNEL_CLOSE (R43). -/
  | channelClose (seq : Byte) (args : List Byte)
  /-- ACCEPT (R38). -/
  | accept (seq : Byte) (args : List Byte)
  /-- SETTLE (R39). -/
  | settle (seq : Byte) (args : List Byte)
  /-- SLOT_CONFIG (R58). -/
  | slotConfig (seq : Byte) (args : List Byte)
  /-- SLOT_READ (R57). -/
  | slotRead (seq : Byte) (args : List Byte)
  /-- SLOT_ON (R62). -/
  | slotOn (seq : Byte) (args : List Byte)
  /-- SLOT_STOP (R66). -/
  | slotStop (seq : Byte) (args : List Byte)
  /-- SLOT_CUT (R67). -/
  | slotCut (seq : Byte) (args : List Byte)
  /-- SLOT_RESET (R65). -/
  | slotReset (seq : Byte) (args : List Byte)
  /-- SLOT_FAULT_CLEAR (R69). -/
  | slotFaultClear (seq : Byte) (args : List Byte)
  /-- SLOT_SLEEP (R94). -/
  | slotSleep (seq : Byte) (args : List Byte)
  /-- SLOT_WAKE (R95). -/
  | slotWake (seq : Byte) (args : List Byte)
  /-- SLOT_VERDICT (R82). -/
  | slotVerdict (seq : Byte) (args : List Byte)
  /-- SLOT_HOLD (R80). -/
  | slotHold (seq : Byte) (args : List Byte)
  /-- SLOT_UNHOLD (R80). -/
  | slotUnhold (seq : Byte) (args : List Byte)
  /-- SLOT_KICK (R101). -/
  | slotKick (seq : Byte) (args : List Byte)
  /-- SLOT_RECOVERY_CLEAR (R107). -/
  | slotRecoveryClear (seq : Byte) (args : List Byte)
  /-- STAGE_CONFIG (R130). -/
  | stageConfig (seq : Byte) (args : List Byte)
  /-- STAGE_READ (R132). -/
  | stageRead (seq : Byte) (args : List Byte)
  /-- SHED_CONFIG (R131). -/
  | shedConfig (seq : Byte) (args : List Byte)
  /-- TIMER_START (R137). -/
  | timerStart (seq : Byte) (args : List Byte)
  /-- TIMER_STOP (R139). -/
  | timerStop (seq : Byte) (args : List Byte)
  /-- TIMER_READ (R140). -/
  | timerRead (seq : Byte) (args : List Byte)
  /-- Standby power arrives (R158). -/
  | standbyPowerOn
  /-- RESET_N is asserted (R158). -/
  | resetNAssert
  /-- RESET_N is released (R158). -/
  | resetNRelease
  /-- A raw pin takes a level (R4, R5, R154 for RXD). -/
  | pinLevelChange (pin : Pin) (level : Bool)
  /-- The conditioned level of a GEI line becomes `level` (R4, R7). -/
  | geiEdge (line : GeiLine) (level : Bool)
  /-- The conditioned level of a slot's ALERT line becomes `level` (R7). -/
  | alertEdge (slot : SlotId) (level : Bool)
  /-- A conditioned rise of a slot's WAKE line (R91). -/
  | wakeLineRise (slot : SlotId)
  /-- A conditioned rise of a slot's SLPREQ line (R78). -/
  | slpreqRise (slot : SlotId)
  /-- A conditioned assertion of a slot's BTN line (R108). -/
  | buttonPress (slot : SlotId)
  /-- A conditioned release of a slot's BTN line (R109). -/
  | buttonRelease (slot : SlotId)
  /-- A slot's button hold timer runs out (R109). -/
  | buttonHoldExpiry (slot : SlotId)
  /-- A conditioned release of a slot's PRESENT line (R70). -/
  | removal (slot : SlotId)
  /-- A conditioned assertion of a slot's PRESENT line (R71). -/
  | insertion (slot : SlotId)
  /-- A rising edge of a slot's HBEAT line (R100). -/
  | hbeatRise (slot : SlotId)
  /-- A rising edge of a slot's ACT line (R96). -/
  | actRise (slot : SlotId)
  /-- An assertion of a slot's PGOOD line (R61, R89). -/
  | pgoodAssert (slot : SlotId)
  /-- A release of a slot's PGOOD line that has persisted 1 ms (R68). -/
  | pgLost (slot : SlotId)
  /-- An assertion of a slot's RDY line (R66, R86). -/
  | rdyAssert (slot : SlotId)
  /-- A release of a slot's RDY line (R89). -/
  | rdyRelease (slot : SlotId)
  /-- The power-up limit runs out in POWERING (R61). -/
  | powerupLimitExpiry (slot : SlotId)
  /-- The reset hold of RELEASING ends (R63). -/
  | resetHoldEnd (slot : SlotId)
  /-- The reset hold of RESETTING ends (R65). -/
  | resettingEnd (slot : SlotId)
  /-- The stop limit runs out in STOPPING (R66). -/
  | stopLimitExpiry (slot : SlotId)
  /-- The sleep-entry limit runs out in ENTERING (R86). -/
  | sleepEntryLimitExpiry (slot : SlotId)
  /-- The power-up limit runs out in the first step of WAKING (R89). -/
  | wakingPowerupLimitExpiry (slot : SlotId)
  /-- The wake limit runs out in the second step of WAKING (R89). -/
  | wakeLimitExpiry (slot : SlotId)
  /-- The hold-wait timer runs out (R84). -/
  | holdWaitExpiry (slot : SlotId)
  /-- The verdict timer runs out (R83). -/
  | verdictExpiry (slot : SlotId)
  /-- The idle monitor runs out (R96). -/
  | idleExpiry (slot : SlotId)
  /-- The heartbeat timer runs out (R102, R103, R104). -/
  | heartbeatExpiry (slot : SlotId)
  /-- The stagger timer runs out (R116). -/
  | staggerExpiry
  /-- The off timer of the slot at the head of the start queue reaches its off time (R115, R117). -/
  | offTimeElapsed
  /-- A conditioned assertion of MAINGOOD (R120). -/
  | maingoodAssert
  /-- A release of MAINGOOD that has persisted 1 ms (R119, R120). -/
  | maingoodRelease
  /-- The rail settle timer runs out (R120). -/
  | settleExpiry
  /-- A conditioned assertion of THERM (R126). -/
  | thermAssert
  /-- A conditioned release of THERM (R127). -/
  | thermRelease
  /-- The escalation timer runs out (R127). -/
  | escalationExpiry
  /-- The cool timer runs out (R128). -/
  | coolExpiry
  /-- A general timer runs out (R138). -/
  | timerExpiry (timer : TimerId)
  /-- The offer timer of a channel runs out (R35). -/
  | offerTimeout (channel : ChannelId)
  /-- The service timer of a channel runs out (R40). -/
  | serviceExpiry (channel : ChannelId)
  /-- A complete received frame: its SEQ, KIND, payload and received check value; LEN is the
  payload's length (R148). -/
  | rxFrame (seq : Byte) (kind : Byte) (payload : List Byte) (check : Half)
  /-- A LEN byte above 120 (R146). Its value reaches no state, so the command carries none. -/
  | rxLenTooLong
  /-- The gap timer runs out inside a frame (R147). -/
  | gapTimeout
  /-- RXD has been low for 2 ms (R154). -/
  | breakDetect
  /-- RXD rises after a recognised break (R155). -/
  | linkReset
  /-- The last byte of the frame on TXD has been sent (R153). -/
  | txFrameEnd
  /-- A conditioned fall of a slot's WAKE line (R7). -/
  | wakeLineFall (slot : SlotId)
  /-- One byte arrives on RXD with a good stop bit (R143, R146). -/
  | rxByte (byte : Byte)
deriving DecidableEq, Repr

end Sys2Proof
end

