-- ==== Sys2Proof/Decode.lean ====
section
/-! DEFINITION. The decoding the part has: a request code from its byte, with the payload length its
layout allows (section 10.2). The rows of spec/opcode_table.json give no bits, so no table word spells
a command. -/

namespace Sys2Proof

/-- The request code of a request (section 10.2). -/
def ReqCode.byte : ReqCode → Byte
  | .hello => 0x01
  | .status => 0x02
  | .restart => 0x03
  | .eventConfig => 0x10
  | .eventRead => 0x11
  | .eventList => 0x12
  | .eventClear => 0x13
  | .eventPost => 0x14
  | .inputConfig => 0x15
  | .inputRead => 0x16
  | .channelOpen => 0x20
  | .channelClose => 0x21
  | .accept => 0x22
  | .settle => 0x23
  | .slotConfig => 0x30
  | .slotRead => 0x31
  | .slotOn => 0x32
  | .slotStop => 0x33
  | .slotCut => 0x34
  | .slotSleep => 0x35
  | .slotWake => 0x36
  | .slotReset => 0x37
  | .slotVerdict => 0x38
  | .slotHold => 0x39
  | .slotUnhold => 0x3A
  | .slotKick => 0x3B
  | .slotFaultClear => 0x3C
  | .slotRecoveryClear => 0x3D
  | .stageConfig => 0x40
  | .stageRead => 0x41
  | .shedConfig => 0x42
  | .timerStart => 0x50
  | .timerStop => 0x51
  | .timerRead => 0x52

/-- The payload length of a request, the code byte counted (section 10.2). -/
def ReqCode.length : ReqCode → Nat
  | .hello => 1
  | .status => 1
  | .restart => 1
  | .eventConfig => 7
  | .eventRead => 3
  | .eventList => 1
  | .eventClear => 9
  | .eventPost => 4
  | .inputConfig => 3
  | .inputRead => 1
  | .channelOpen => 5
  | .channelClose => 2
  | .accept => 3
  | .settle => 3
  | .slotConfig => 21
  | .slotRead => 2
  | .slotOn => 2
  | .slotStop => 2
  | .slotCut => 2
  | .slotSleep => 3
  | .slotWake => 2
  | .slotReset => 2
  | .slotVerdict => 3
  | .slotHold => 2
  | .slotUnhold => 2
  | .slotKick => 2
  | .slotFaultClear => 2
  | .slotRecoveryClear => 3
  | .stageConfig => 3
  | .stageRead => 1
  | .shedConfig => 4
  | .timerStart => 5
  | .timerStop => 2
  | .timerRead => 1

/-- Every request of the table. -/
def ReqCode.all : List ReqCode :=
  [.hello, .status, .restart, .eventConfig, .eventRead, .eventList, .eventClear, .eventPost,
   .inputConfig, .inputRead, .channelOpen, .channelClose, .accept, .settle, .slotConfig, .slotRead,
   .slotOn, .slotStop, .slotCut, .slotSleep, .slotWake, .slotReset, .slotVerdict, .slotHold,
   .slotUnhold, .slotKick, .slotFaultClear, .slotRecoveryClear, .stageConfig, .stageRead,
   .shedConfig, .timerStart, .timerStop, .timerRead]

/-- The code test of dispatch (R151 step 2, R167): the request a code byte names, or none. -/
def ReqCode.ofByte (b : Byte) : Option ReqCode :=
  ReqCode.all.find? fun c => c.byte == b

/-- The request a payload names by its byte 0; a payload of LEN 0 names none (R167). -/
def requestOf (payload : List Byte) : Option ReqCode :=
  match payload with
  | [] => none
  | b :: _ => ReqCode.ofByte b

/-- No row of spec/opcode_table.json gives bits, so no word spells a command. -/
def decodeTableWord (_nbits _w : Nat) : Option Instr := none

end Sys2Proof
end

