-- ==== Sys2Proof/Config.lean ====
section
/-! DEFINITION. What the part fixes (identity, fixed times) and the one free value of the model. -/

namespace Sys2Proof.Config

/-- The part code reported by HELLO (R162). -/
def partCode : Half := 0x0A32

/-- The revision number reported by HELLO (R162). -/
def revision : Byte := 1

/-- The offer timeout in ms: fixed, with no setting (R27, R34). -/
def offerTimeout : Nat := 250

/-- The byte-to-byte gap inside a frame, in ms (R147). -/
def frameGap : Nat := 5

/-- How long RXD must be low to be a break, in ms (R154). -/
def breakTime : Nat := 2

/-- The debounce of WAKE, ALERT, SLPREQ, BTN and PRESENT, in ms (R5). -/
def slotDebounce : Nat := 8

/-- The qualifying time of a PGOOD or MAINGOOD release, in ms (R5). -/
def releaseQualify : Nat := 1

/-- The debounce of THERM, in ms (R5). -/
def thermDebounce : Nat := 50

/-- The largest LEN a frame may carry (R144, R146). -/
def maxPayload : Nat := 120

/-- How many request frames the request queue holds (R150). -/
def requestQueueSize : Nat := 4

/-- How many pieces of unfinished business one step may work off (`Machine.drain`). Far above what
a step can raise; what were left over would stay in State for the next step, never be lost. -/
def drainFuel : Nat := 1000

/-- FREE VALUE (log 5). The order in which events that come together are taken is not fixed by the
manual (00_scope 5.4). The `k`-th choice of the next event is `freeChoice k`, about which nothing
can be proved. -/
opaque freeChoice : Nat → Nat

end Sys2Proof.Config
end

