-- ==== Sys2Proof/Machine/Blocks.lean ====
section
/-! DEFINITION. The records the seven blocks of the part keep (spec 00_scope 2.1), as plain data. -/

namespace Sys2Proof.Machine

/-! ### The Event Table (spec 01) -/

/-- The triggers of R7. -/
inductive Trigger where
  | rise | fall | both | high | low | pulse
deriving DecidableEq, Repr

/-- The routes of R1. -/
inductive Route where
  | none | priority | routine
deriving DecidableEq, Repr

/-- A set of slots: bit n - 1 names slot n (R166). -/
abbrev SlotSet := BitVec 6

/-- What a latched entry records (R1): a count of 1 to 255, the first time, and the detail where the
source carries one. -/
structure Latch where
  count : Byte
  firstTime : Word
  detail : Option Half
deriving DecidableEq, Repr

/-- The configuration and status of one entry (R1). The entry is latched exactly when `latch` is
present. -/
structure Entry where
  enabled : Bool
  trigger : Trigger
  route : Route
  wakeSet : SlotSet
  holdSet : SlotSet
  latch : Option Latch
deriving DecidableEq, Repr

/-! ### Notice Channels (spec 02) -/

/-- The states of a channel (R26). -/
inductive ChannelState where
  | closed | idle | offered | servicing | stalled
deriving DecidableEq, Repr

/-- One item of a notice: the record of an entry as it stood at composition (R31). -/
structure NoticeItem where
  entry : EntryId
  count : Byte
  firstTime : Word
  detail : Option Half
deriving DecidableEq, Repr

/-- The offer timer (section 2.1, R34); `running` holds the ms left. -/
inductive OfferTimer where
  | stopped
  | waiting
  | running (left : Nat)
deriving DecidableEq, Repr

/-- A notice channel (section 2.1). -/
structure Channel where
  state : ChannelState
  itemLimit : Nat
  retries : Nat
  /-- In units of 100 ms; 0 is no limit. -/
  serviceLimit : Nat
  pending : List EntryId
  inFlight : List EntryId
  number : Byte
  retryCount : Nat
  remaining : Nat
  /-- The items of the outstanding notice as composed (R31). -/
  items : List NoticeItem
  /-- A sending of the notice waits at the transmit arbiter and has not begun (R34). -/
  sendWaiting : Bool
  offerTimer : OfferTimer
  /-- ms left; none is stopped. -/
  serviceTimer : Option Nat
  stallCount : Half
  overrunCount : Half
  offersSent : Half
deriving DecidableEq, Repr

/-! ### Input lines (section 1.3) -/

/-- A conditioned input line, levels in the asserted sense (R4). `period` is the ms left of a running
debounce or qualifying period. -/
structure Line where
  pin : Bool
  level : Bool
  period : Option Nat
deriving DecidableEq, Repr

/-- The board lines and the GEI debounce times in ms (R5). -/
structure BoardLines where
  gei : Vector Line 12
  geiDebounce : Vector Nat 12
  mainGood : Line
  therm : Line
deriving DecidableEq, Repr

/-- The input lines of one slot (R5). -/
structure SlotLines where
  wake : Line
  alert : Line
  slpReq : Line
  btn : Line
  present : Line
  hbeat : Line
  act : Line
  rdy : Line
  pgood : Line
deriving DecidableEq, Repr

/-! ### Slot Sequencers, Supervision and Override (spec 03, 04, 05) -/

/-- The life-cycle states of a slot (R55). -/
inductive LifeState where
  | off | queued | powering | releasing | running | resetting
  | sleepWait | entering | asleep | waking | stopping | faulted
deriving DecidableEq, Repr

/-- The causes of slot transitions (R55). -/
inductive Cause where
  | host | button | resume | recovery | shed | shedRestore | wakeEvent | wakeFromOff
  | sleepLine | idle | railLoss | pgTimeout | pgLost | entryTimeout | wakeTimeout | stopTimeout
  | removed | inserted | override | holdTimeout | denied | overtaken | supervisionFault | autostart
deriving DecidableEq, Repr

/-- The origins of a power-up claim (section 6.1.1). -/
inductive QueueOrigin where
  | host | button | resume | recovery | shedRestore | wakeFromOff | autostart
deriving DecidableEq, Repr

/-- The origins of a wake request (R90). -/
inductive WakeOrigin where
  | wakeEvent | wakeLine | host | button | shedRestore
deriving DecidableEq, Repr

/-- The origins a pending sleep record may hold (R77). The forced origins of R76 hold no record. -/
inductive SleepOrigin where
  | line | idle | host
deriving DecidableEq, Repr

/-- What a slot's step timer times (R57, section 10.7). -/
inductive StepKind where
  | powerUp | resetHold | sleepEntry | wake | stop | holdWait
deriving DecidableEq, Repr

/-- A running step timer, with the ms left. -/
structure StepTimer where
  kind : StepKind
  left : Nat
deriving DecidableEq, Repr

/-- The last transition of a slot: its cause and the uptime (R54). -/
structure Transition where
  cause : Cause
  time : Word
deriving DecidableEq, Repr

/-- The pending sleep record (R77). -/
structure PendingSleep where
  origin : SleepOrigin
  verdictAwaited : Bool
deriving DecidableEq, Repr

/-- GRANT or DENY (R82). -/
inductive Verdict where
  | deny | grant
deriving DecidableEq, Repr

/-- What the idle monitor does at expiry (R58). -/
inductive IdleAction where
  | none | sleep
deriving DecidableEq, Repr

/-- Power-up at the rail's return (R58, R121). -/
inductive ResumePolicy where
  | off | restore | on
deriving DecidableEq, Repr

/-- How a slot is shed (R58, R123). -/
inductive ShedAction where
  | sleep | stop
deriving DecidableEq, Repr

/-- The eighteen configuration fields of a slot, in the order and units of R58. -/
structure SlotConfig where
  powerUpLimit : Nat
  resetHold : Nat
  sleepEntryLimit : Nat
  wakeLimit : Nat
  stopLimit : Nat
  offTime : Nat
  intercept : Bool
  verdictLimit : Nat
  defaultVerdict : Verdict
  holdWaitLimit : Nat
  idleAction : IdleAction
  idleLimit : Nat
  supervisionInterval : Nat
  overrideTime : Nat
  resumePolicy : ResumePolicy
  wakeFromOff : Bool
  shedRank : Nat
  shedAction : ShedAction
deriving DecidableEq, Repr

/-- A slot record (R54) with its supervision and override fields (spec 05). The queue origin and the
in-shed-list mark have their one home in the Staging Unit's lists, `present` in the PRESENT line.
Timers hold the ms left; none is stopped. -/
structure Slot where
  state : LifeState
  last : Option Transition
  step : Option StepTimer
  /-- ms since the rail last went off, saturating at FFFFFFFFh. -/
  offTimer : Nat
  stateAtLoss : Option LifeState
  hostHolds : Nat
  holds : Nat
  /-- The deferred-wake flag, present when set, with the cause of the wake (R87). -/
  deferredWake : Option Cause
  pendingSleep : Option PendingSleep
  verdictTimer : Option Nat
  idleTimer : Option Nat
  heartbeat : Option Nat
  expiredOnce : Bool
  fallback : Bool
  override : Bool
  recoveryCount : Nat
  buttonHold : Option Nat
  config : SlotConfig
deriving DecidableEq, Repr

/-- A wake request on its way to a slot (R11, R90). -/
structure WakeRequest where
  slot : SlotId
  origin : WakeOrigin
deriving DecidableEq, Repr

/-! ### The Staging Unit (spec 06) -/

/-- A place in the start queue (R114). -/
structure QueuePlace where
  slot : SlotId
  origin : QueueOrigin
deriving DecidableEq, Repr

/-- A place in the shed list (R123). -/
structure ShedPlace where
  slot : SlotId
  action : ShedAction
deriving DecidableEq, Repr

/-- The rail state (R119, R120). -/
inductive Rail where
  | lost | good
deriving DecidableEq, Repr

/-- The restore mark (R128, R129): clear; set with no slot under restore; set with one. -/
inductive Restore where
  | clear
  | between
  | watching (slot : SlotId)
deriving DecidableEq, Repr

/-- The Staging Unit's fields. Timers hold the ms left; none is stopped. The thermal state has its one
home in the THERM line's conditioned level (R122). -/
structure Staging where
  startQueue : List QueuePlace
  staggerTimer : Option Nat
  /-- In units of 10 ms. -/
  staggerGap : Nat
  rail : Rail
  settleTimer : Option Nat
  /-- In units of 10 ms. -/
  railSettle : Nat
  firstReturn : Bool
  shedEnable : Bool
  shedLevel : Nat
  shedList : List ShedPlace
  /-- In s. -/
  escalationInterval : Nat
  escalationTimer : Option Nat
  /-- In s. -/
  coolTime : Nat
  coolTimer : Option Nat
  restore : Restore
deriving DecidableEq, Repr

/-! ### Time Base and Timers (spec 07) -/

/-- STOPPED or RUNNING (R136). -/
inductive TimerState where
  | stopped | running
deriving DecidableEq, Repr

/-- ONCE or REPEAT (R138). -/
inductive TimerMode where
  | once | repeats
deriving DecidableEq, Repr

/-- A general timer (section 7.2), interval and remaining time in ms. -/
structure GeneralTimer where
  state : TimerState
  mode : TimerMode
  interval : Half
  remaining : Half
deriving DecidableEq, Repr

/-! ### The Control Link and the session (spec 08, 09) -/

/-- A frame less its START, LEN and CHECK, which the rest fixes (R144). -/
structure Frame where
  seq : Byte
  kind : Byte
  payload : List Byte
deriving DecidableEq, Repr

/-- A queued request frame (R148): its LEN is the payload's length. -/
structure Request where
  seq : Byte
  payload : List Byte
deriving DecidableEq, Repr

/-- The last executed request's SEQ and reply payload (R152). -/
structure CachedReply where
  seq : Byte
  payload : List Byte
deriving DecidableEq, Repr

/-- The receiver and the frame in reception (R146). HEADER is split by the byte it waits for. -/
inductive Receiver where
  /-- HUNT. -/
  | hunt
  /-- HEADER, waiting for LEN. -/
  | headerLen
  /-- HEADER, waiting for SEQ. -/
  | headerSeq (len : Byte)
  /-- HEADER, waiting for KIND. -/
  | headerKind (len seq : Byte)
  /-- BODY, with the payload bytes taken so far. -/
  | body (len seq kind : Byte) (taken : List Byte)
  /-- CHECK, waiting for the high byte of the check value. -/
  | checkHigh (seq kind : Byte) (payload : List Byte)
  /-- CHECK, waiting for the low byte. -/
  | checkLow (seq kind : Byte) (payload : List Byte) (high : Byte)
deriving DecidableEq, Repr

/-- The transmit line (R153). -/
inductive TxLine where
  | idle
  | reply (frame : Frame)
  | notice (channel : ChannelId) (frame : Frame)
deriving DecidableEq, Repr

/-- The Control Link's fields (spec 08). `rxd` is the RXD pin, high when true. -/
structure Link where
  rxd : Bool
  receiver : Receiver
  gapTimer : Option Nat
  breakTimer : Option Nat
  /-- A break has been recognised and has not ended (R154). -/
  inBreak : Bool
  queue : List Request
  replyWaiting : Option Frame
  restartPending : Bool
  cache : Option CachedReply
  tx : TxLine
  greeted : Bool
  discardCount : Half
  duplicateCount : Half
deriving DecidableEq, Repr

/-- The restart reason (R160). -/
inductive RestartReason where
  | power | pin | request
deriving DecidableEq, Repr

/-- The restart record and the sampled straps (spec 09). -/
structure Session where
  reason : RestartReason
  restartTime : Word
  linkRate : BitVec 2
  autostart : Bool
deriving DecidableEq, Repr

/-- The strap pins as they stand now, high when true (00_scope section 6). -/
structure Straps where
  lrate1 : Bool
  lrate0 : Bool
  autostart : Bool
deriving DecidableEq, Repr

/-- Whether the part runs (R158). -/
inductive Phase where
  /-- No standby power; whether RESET_N is asserted. -/
  | unpowered (resetAsserted : Bool)
  /-- RESET_N is asserted with standby power present; the reason of the cold start at its release. -/
  | held (reason : RestartReason)
  | running
deriving DecidableEq, Repr

end Sys2Proof.Machine
end

