-- ==== Sys2Proof/Machine/ColdStart.lean ====
section
/-! DEFINITION. The cold-start values of every block (R24, R48, R73, R112, R133, R142, R157, R158). -/

namespace Sys2Proof.Machine

/-- R24: disabled, default trigger, routed NONE, empty sets, clear. -/
def Entry.coldStart (e : EntryId) : Entry where
  enabled := false
  trigger := if e.val < 24 then .rise else .pulse
  route := .none
  wakeSet := 0
  holdSet := 0
  latch := none

/-- R48. -/
def Channel.coldStart : Channel where
  state := .closed
  itemLimit := 12
  retries := 3
  serviceLimit := 0
  pending := []
  inFlight := []
  number := 0
  retryCount := 0
  remaining := 0
  items := []
  sendWaiting := false
  offerTimer := .stopped
  serviceTimer := none
  stallCount := 0
  overrunCount := 0
  offersSent := 0

/-- R6: a line takes its pin level at once, with no edge. -/
def Line.coldStart (l : Line) : Line := { pin := l.pin, level := l.pin, period := none }

/-- R6: THERM starts released; an asserted pin starts its debounce period at once. -/
def Line.coldStartTherm (l : Line) : Line :=
  { pin := l.pin, level := false, period := if l.pin then some Config.thermDebounce else none }

/-- R6, with every GEI debounce time 0. -/
def BoardLines.coldStart (b : BoardLines) : BoardLines where
  gei := Vector.ofFn fun i => b.gei[i].coldStart
  geiDebounce := Vector.replicate 12 0
  mainGood := b.mainGood.coldStart
  therm := b.therm.coldStartTherm

/-- R6. -/
def SlotLines.coldStart (l : SlotLines) : SlotLines where
  wake := l.wake.coldStart
  alert := l.alert.coldStart
  slpReq := l.slpReq.coldStart
  btn := l.btn.coldStart
  present := l.present.coldStart
  hbeat := l.hbeat.coldStart
  act := l.act.coldStart
  rdy := l.rdy.coldStart
  pgood := l.pgood.coldStart

/-- The cold-start column of R58, with the resume policy of R74. -/
def SlotConfig.coldStart (policy : ResumePolicy) : SlotConfig where
  powerUpLimit := 20
  resetHold := 20
  sleepEntryLimit := 20
  wakeLimit := 10
  stopLimit := 30
  offTime := 5
  intercept := false
  verdictLimit := 10
  defaultVerdict := .deny
  holdWaitLimit := 0
  idleAction := .none
  idleLimit := 60
  supervisionInterval := 0
  overrideTime := 4
  resumePolicy := policy
  wakeFromOff := false
  shedRank := 0
  shedAction := .sleep

/-- R74: ON for a slot present at the sampling with the strap high; OFF otherwise. -/
def autostartPolicy (autostart present : Bool) : ResumePolicy :=
  if autostart && present then .on else .off

/-- R73, R98, R112: OFF, with the off timer started. -/
def Slot.coldStart (policy : ResumePolicy) : Slot where
  state := .off
  last := none
  step := none
  offTimer := 0
  stateAtLoss := none
  hostHolds := 0
  holds := 0
  deferredWake := none
  pendingSleep := none
  verdictTimer := none
  idleTimer := none
  heartbeat := none
  expiredOnce := false
  fallback := false
  override := false
  recoveryCount := 0
  buttonHold := none
  config := SlotConfig.coldStart policy

/-- R133. A MAINGOOD asserted at the cold start starts the settle timer at once. -/
def Staging.coldStart (mainGood : Bool) : Staging where
  startQueue := []
  staggerTimer := none
  staggerGap := 25
  rail := .lost
  settleTimer := if mainGood then some 500 else none
  railSettle := 50
  firstReturn := true
  shedEnable := false
  shedLevel := 0
  shedList := []
  escalationInterval := 10
  escalationTimer := none
  coolTime := 30
  coolTimer := none
  restore := .clear

/-- R142. -/
def GeneralTimer.coldStart : GeneralTimer where
  state := .stopped
  mode := .once
  interval := 1000
  remaining := 0

/-- R157. An RXD that is low at the cold start starts the break timer (R154). -/
def Link.coldStart (rxd : Bool) : Link where
  rxd := rxd
  receiver := .hunt
  gapTimer := none
  breakTimer := if rxd then none else some Config.breakTime
  inBreak := false
  queue := []
  replyWaiting := none
  restartPending := false
  cache := none
  tx := .idle
  greeted := false
  discardCount := 0
  duplicateCount := 0

/-- The link rate code of the straps: LRATE1..0 read as a two-bit number (R143, section 10.5.1). -/
def Straps.linkRate (p : Straps) : BitVec 2 :=
  BitVec.ofBool p.lrate1 ++ BitVec.ofBool p.lrate0

/-- R158, R159: the restart record and the straps sampled. -/
def Session.coldStart (reason : RestartReason) (p : Straps) : Session where
  reason := reason
  restartTime := 0
  linkRate := p.linkRate
  autostart := p.autostart

/-- A line whose pin is released and has been so. -/
def Line.released : Line := { pin := false, level := false, period := none }

/-- Board lines with every pin released (DESIGN CHOICE, log 9). -/
def BoardLines.released : BoardLines where
  gei := Vector.replicate 12 Line.released
  geiDebounce := Vector.replicate 12 0
  mainGood := Line.released
  therm := Line.released

/-- Slot lines with every pin released (DESIGN CHOICE, log 9). -/
def SlotLines.released : SlotLines where
  wake := Line.released
  alert := Line.released
  slpReq := Line.released
  btn := Line.released
  present := Line.released
  hbeat := Line.released
  act := Line.released
  rdy := Line.released
  pgood := Line.released

/-- Every strap low (DESIGN CHOICE, log 9). -/
def Straps.low : Straps := { lrate1 := false, lrate0 := false, autostart := false }

end Sys2Proof.Machine
end

