-- ==== Sys2Proof/Machine/State.lean ====
section
/-! DEFINITION. The state of the part, the reasons a step could stop, and the state after reset. -/

namespace Sys2Proof.Machine

/-- The state of the Dorpen 2610 (spec 00_scope 2.1), with the queue of waiting commands. -/
structure State where
  /-- Whether the part runs (R158). -/
  phase : Phase
  /-- The strap pins (00_scope section 6). -/
  straps : Straps
  /-- The board lines (R5). -/
  board : BoardLines
  /-- The input lines of the six slots (R5). -/
  lines : Vector SlotLines 6
  /-- The Event Table (R1). -/
  entries : Vector Entry 60
  /-- Wake requests sent in this step and not yet taken (R11, R171; log 6). Empty between steps. -/
  wakes : List WakeRequest
  /-- The Priority channel (R26). -/
  priority : Channel
  /-- The Routine channel (R26). -/
  routine : Channel
  /-- The six slot records (R54). -/
  slots : Vector Slot 6
  /-- The Staging Unit (spec 06). -/
  staging : Staging
  /-- The uptime counter (R135). -/
  uptime : Word
  /-- The four general timers (R136). -/
  timers : Vector GeneralTimer 4
  /-- The Control Link (spec 08). -/
  link : Link
  /-- The restart record and the sampled straps (spec 09). -/
  session : Session
  /-- The commands that wait, first in, first out (log 14). -/
  pending : List Instr
  /-- How many free choices of order have been drawn (log 5). The model's own field. -/
  choices : Nat
deriving DecidableEq, Repr

/-- The reasons the part could stop with a fault: none. The spec names no condition that stops the
part (log 19), so no constructor stands here and nothing raises one; whether a fault is safe does not
arise. -/
inductive Fault where
deriving DecidableEq, Repr

/-- The reasons a command could have no meaning. -/
inductive Refusal where
  /-- Raised by exec alone, for a command whose meaning has not been written. Safe: a run stops.
  No arm of exec raises it: every command has its meaning. -/
  | notModelled (mnemonic : String)
deriving DecidableEq, Repr

/-- The cold start of the part at its present pins (R158): every block at the value its chapter gives.
The pins, the waiting commands and the count of free choices are outside the part and stay. -/
def State.coldStarted (reason : RestartReason) (straps : Straps) (board : BoardLines)
    (lines : Vector SlotLines 6) (rxd : Bool) (pending : List Instr) (choices : Nat) : State where
  phase := .running
  straps := straps
  board := board.coldStart
  lines := Vector.ofFn fun i => lines[i].coldStart
  entries := Vector.ofFn Entry.coldStart
  wakes := []
  priority := Channel.coldStart
  routine := Channel.coldStart
  slots := Vector.ofFn fun i =>
    Slot.coldStart (autostartPolicy straps.autostart lines[i].present.pin)
  staging := Staging.coldStart board.mainGood.pin
  uptime := 0
  timers := Vector.replicate 4 GeneralTimer.coldStart
  link := Link.coldStart rxd
  session := Session.coldStart reason straps
  pending := pending
  choices := choices

/-- The part right after a cold start at the arrival of standby power (R158), with every input pin
released, RXD at rest and every strap low (DESIGN CHOICE, log 9), and no command waiting. -/
def State.reset : State :=
  State.coldStarted .power Straps.low BoardLines.released (Vector.replicate 6 SlotLines.released)
    true [] 0

end Sys2Proof.Machine
end

