-- ==== Sys2Proof/Machine/Ops.lean ====
section
/-! DEFINITION. The named operations by which every meaning reads and writes State: one accessor and
one update per record, counting, and byte order. -/

namespace Sys2Proof.Machine

/-! ### Counting and byte order -/

/-- A counter described as saturating stops at its maximum (00_scope 5.1). -/
def satInc {w : Nat} (x : BitVec w) : BitVec w := if x = BitVec.allOnes w then x else x + 1

/-- A two-byte field, high byte first (R166). -/
def halfBytes (x : Half) : List Byte := [x.extractLsb' 8 8, x.extractLsb' 0 8]

/-- A four-byte field, high byte first (R166). -/
def wordBytes (x : Word) : List Byte :=
  [x.extractLsb' 24 8, x.extractLsb' 16 8, x.extractLsb' 8 8, x.extractLsb' 0 8]

/-- Two bytes read high byte first (R166). -/
def halfOf (hi lo : Byte) : Half := hi ++ lo

/-- A boolean field: 01h for on, yes or set (R166). -/
def boolByte (b : Bool) : Byte := if b then 1 else 0

/-- A number sent in one byte. -/
def natByte (n : Nat) : Byte := BitVec.ofNat 8 n

/-- A number sent in two bytes. -/
def natHalf (n : Nat) : List Byte := halfBytes (BitVec.ofNat 16 n)

/-- A number sent in four bytes. -/
def natWord (n : Nat) : List Byte := wordBytes (BitVec.ofNat 32 n)

/-- A time left in ms, told in units of `unit` ms and rounded up; 0 when the timer is stopped. -/
def leftIn (unit : Nat) (t : Option Nat) : Nat := (t.getD 0 + unit - 1) / unit

/-- The slots of a set, in ascending order (log 7). -/
def slotsOf (set : SlotSet) : List SlotId := (List.finRange 6).filter fun i => set.getLsbD i.val

/-! ### Access to the records of State -/

namespace State

/-- The entry record of an index. -/
def entry (s : State) (e : EntryId) : Entry := s.entries[e]

/-- Write one entry record. -/
def setEntry (s : State) (e : EntryId) (x : Entry) : State :=
  { s with entries := s.entries.set e.val x e.isLt }

/-- A channel's record. -/
def channel (s : State) (c : ChannelId) : Channel :=
  match c with
  | .priority => s.priority
  | .routine => s.routine

/-- Write one channel's record. -/
def setChannel (s : State) (c : ChannelId) (x : Channel) : State :=
  match c with
  | .priority => { s with priority := x }
  | .routine => { s with routine := x }

/-- A slot's record. -/
def slot (s : State) (i : SlotId) : Slot := s.slots[i]

/-- Write one slot's record. -/
def setSlot (s : State) (i : SlotId) (x : Slot) : State :=
  { s with slots := s.slots.set i.val x i.isLt }

/-- Change every slot's record. -/
def mapSlots (s : State) (f : SlotId → Slot → Slot) : State :=
  { s with slots := Vector.ofFn fun i => f i s.slots[i] }

/-- A slot's input lines. -/
def lineSet (s : State) (i : SlotId) : SlotLines := s.lines[i]

/-- Write one slot's input lines. -/
def setLineSet (s : State) (i : SlotId) (x : SlotLines) : State :=
  { s with lines := s.lines.set i.val x i.isLt }

/-- A GEI line. -/
def geiLine (s : State) (n : GeiLine) : Line := s.board.gei[n]

/-- Write one GEI line. -/
def setGeiLine (s : State) (n : GeiLine) (x : Line) : State :=
  { s with board := { s.board with gei := s.board.gei.set n.val x n.isLt } }

/-- Write the board lines. -/
def setBoard (s : State) (x : BoardLines) : State := { s with board := x }

/-- Write the Staging Unit's record. -/
def setStaging (s : State) (x : Staging) : State := { s with staging := x }

/-- Write the Control Link's record. -/
def setLink (s : State) (x : Link) : State := { s with link := x }

/-- Write the wake requests waiting within the step. -/
def setWakes (s : State) (x : List WakeRequest) : State := { s with wakes := x }

/-- A general timer. -/
def timer (s : State) (t : TimerId) : GeneralTimer := s.timers[t]

/-- Write one general timer. -/
def setTimer (s : State) (t : TimerId) (x : GeneralTimer) : State :=
  { s with timers := s.timers.set t.val x t.isLt }

/-- The life-cycle state of a slot. -/
def lifeOf (s : State) (i : SlotId) : LifeState := (s.slot i).state

/-- The present field: the conditioned PRESENT level (R54). -/
def isPresent (s : State) (i : SlotId) : Bool := (s.lineSet i).present.level

/-- The rail state is GOOD. -/
def railGood (s : State) : Bool := s.staging.rail == .good

/-- The thermal state is HOT: the conditioned THERM level (R122). -/
def hot (s : State) : Bool := s.board.therm.level

/-- The in-shed-list mark (R54): the slot stands in the shed list. -/
def listed (s : State) (i : SlotId) : Bool := s.staging.shedList.any fun p => p.slot == i

/-- The queue origin (R54): that of the slot's place in the start queue, absent elsewhere. -/
def queueOrigin (s : State) (i : SlotId) : Option QueueOrigin :=
  (s.staging.startQueue.find? fun p => p.slot == i).map QueuePlace.origin

end State

/-! ### Facts fixed by names -/

/-- The other channel. -/
def otherChannel : ChannelId → ChannelId
  | .priority => .routine
  | .routine => .priority

/-- The channel a route names. -/
def Route.channel? : Route → Option ChannelId
  | .none => Option.none
  | .priority => some .priority
  | .routine => some .routine

/-- An entry is latched (R1). -/
def Entry.latched (x : Entry) : Bool := x.latch.isSome

/-- Session class: entries 51 to 59 (R3). -/
def sessionClass (e : EntryId) : Bool := decide (51 ≤ e.val)

/-- Entry 11 + n, the WAKE line of slot n (R2). -/
def wakeEntry (i : SlotId) : EntryId := ⟨12 + i.val, by omega⟩

/-- Entry 17 + n, the ALERT line of slot n (R2). -/
def alertEntry (i : SlotId) : EntryId := ⟨18 + i.val, by omega⟩

/-- Entry n, line GEIn (R2). -/
def geiEntry (n : GeiLine) : EntryId := ⟨n.val, by omega⟩

/-- Entry 23 + n, the sleep request of slot n (R2). -/
def sleepRequestEntry (i : SlotId) : EntryId := ⟨24 + i.val, by omega⟩

/-- Entry 29 + n, the supervision of slot n (R2). -/
def supervisionEntry (i : SlotId) : EntryId := ⟨30 + i.val, by omega⟩

/-- Entry 35 + n, the transition of slot n (R2). -/
def transitionEntry (i : SlotId) : EntryId := ⟨36 + i.val, by omega⟩

/-- Entry 41 + n, the button of slot n (R2). -/
def buttonEntry (i : SlotId) : EntryId := ⟨42 + i.val, by omega⟩

/-- Entry 48, rail lost (R2). -/
def railLostEntry : EntryId := 48

/-- Entry 49, rail restored (R2). -/
def railRestoredEntry : EntryId := 49

/-- Entry 50, thermal (R2). -/
def thermalEntry : EntryId := 50

/-- Entry 50 + n, timer n (R2). -/
def timerEntry (t : TimerId) : EntryId := ⟨51 + t.val, by omega⟩

/-- Entry 54 + n, posted event n (R2). -/
def postedEntry (p : Fin 4) : EntryId := ⟨55 + p.val, by omega⟩

/-- Entry 59, link fault (R2). -/
def linkFaultEntry : EntryId := 59

/-- The state codes of R55. -/
def LifeState.code : LifeState → Byte
  | .off => 0x00
  | .queued => 0x01
  | .powering => 0x02
  | .releasing => 0x03
  | .running => 0x04
  | .resetting => 0x05
  | .sleepWait => 0x06
  | .entering => 0x07
  | .asleep => 0x08
  | .waking => 0x09
  | .stopping => 0x0A
  | .faulted => 0x0B

/-- The cause codes of R55. -/
def Cause.code : Cause → Byte
  | .host => 0x01
  | .button => 0x02
  | .resume => 0x03
  | .recovery => 0x04
  | .shed => 0x05
  | .shedRestore => 0x06
  | .wakeEvent => 0x07
  | .wakeFromOff => 0x08
  | .sleepLine => 0x09
  | .idle => 0x0A
  | .railLoss => 0x0B
  | .pgTimeout => 0x0C
  | .pgLost => 0x0D
  | .entryTimeout => 0x0E
  | .wakeTimeout => 0x0F
  | .stopTimeout => 0x10
  | .removed => 0x11
  | .inserted => 0x12
  | .override => 0x13
  | .holdTimeout => 0x14
  | .denied => 0x15
  | .overtaken => 0x16
  | .supervisionFault => 0x17
  | .autostart => 0x18

/-- Each queue origin has the cause of the same name (R55, R60). -/
def QueueOrigin.cause : QueueOrigin → Cause
  | .host => .host
  | .button => .button
  | .resume => .resume
  | .recovery => .recovery
  | .shedRestore => .shedRestore
  | .wakeFromOff => .wakeFromOff
  | .autostart => .autostart

/-- The cause of a wake by its origin (R90). -/
def WakeOrigin.cause : WakeOrigin → Cause
  | .wakeEvent => .wakeEvent
  | .wakeLine => .wakeEvent
  | .host => .host
  | .button => .button
  | .shedRestore => .shedRestore

/-- The cause a waiting sleep carries, by its origin (R76). -/
def SleepOrigin.cause : SleepOrigin → Cause
  | .line => .sleepLine
  | .idle => .idle
  | .host => .host

/-- The states in which the rail is on (R51). -/
def LifeState.railOn : LifeState → Bool
  | .off | .queued | .faulted => false
  | .powering | .releasing | .running | .resetting | .sleepWait | .entering | .asleep | .waking
  | .stopping => true

/-- The states of a power-up, of which one slot at a time may be in (R115). -/
def LifeState.inPowerUp : LifeState → Bool
  | .powering | .releasing => true
  | .off | .queued | .running | .resetting | .sleepWait | .entering | .asleep | .waking | .stopping
  | .faulted => false

/-- The states whose entry is an occurrence of the slot transition entry (R56). -/
def LifeState.reported : LifeState → Bool
  | .off | .running | .asleep | .faulted => true
  | .queued | .powering | .releasing | .resetting | .sleepWait | .entering | .waking | .stopping =>
    false

end Sys2Proof.Machine
end

