-- ==== Sys2Proof/Machine/Flags.lean ====
section
/-! DEFINITION. What is computed from State and not stored: levels of lines, level-active entries, the
driven lines of a slot, places, and the flags bytes of the replies. -/

namespace Sys2Proof.Machine

/-! ### Entries -/

/-- The conditioned level of a line-source entry's line (R2, R5); none for an internal source. -/
def State.entryLevel (s : State) (e : EntryId) : Option Bool :=
  if h : e.val < 12 then some (s.geiLine ⟨e.val, h⟩).level
  else if h : e.val < 18 then some (s.lineSet ⟨e.val - 12, by omega⟩).wake.level
  else if h : e.val < 24 then some (s.lineSet ⟨e.val - 18, by omega⟩).alert.level
  else none

/-- The level condition of R7 holds for a trigger at a conditioned level. -/
def Trigger.conditionHolds (t : Trigger) (level : Option Bool) : Bool :=
  match t, level with
  | .high, some l => l
  | .low, some l => !l
  | _, _ => false

/-- An entry is level-active (R8). -/
def State.levelActive (s : State) (e : EntryId) : Bool :=
  (s.entry e).trigger.conditionHolds (s.entryLevel e)

/-- A conditioned edge is an occurrence under a trigger (R7). -/
def Trigger.takesEdge (t : Trigger) (rising : Bool) : Bool :=
  match t with
  | .rise | .high => rising
  | .fall | .low => !rising
  | .both => true
  | .pulse => false

/-- The entry is in flight in either channel. -/
def State.inFlight (s : State) (e : EntryId) : Bool :=
  decide (e ∈ s.priority.inFlight) || decide (e ∈ s.routine.inFlight)

/-- The entry is pending in a channel's list. -/
def State.pendingIn (s : State) (c : ChannelId) (e : EntryId) : Bool :=
  decide (e ∈ (s.channel c).pending)

/-- The place code of an entry (section 10.7). -/
def State.placeCode (s : State) (e : EntryId) : Nat :=
  if s.pendingIn .priority e then 1
  else if s.pendingIn .routine e then 2
  else if e ∈ s.priority.inFlight then 3
  else if e ∈ s.routine.inFlight then 4
  else 0

/-- The source kind code of an entry (R2, section 10.7). -/
def sourceKindCode (e : EntryId) : Byte :=
  if e.val < 12 then 0x00
  else if e.val < 18 then 0x01
  else if e.val < 24 then 0x02
  else if e.val < 30 then 0x03
  else if e.val < 36 then 0x04
  else if e.val < 42 then 0x05
  else if e.val < 48 then 0x06
  else if e.val = 48 then 0x07
  else if e.val = 49 then 0x08
  else if e.val = 50 then 0x09
  else if e.val < 55 then 0x0A
  else if e.val < 59 then 0x0B
  else 0x0C

/-! ### The driven lines of a slot -/

/-- The six output lines of a slot, in the asserted sense (R51, R106). -/
structure DrivenLines where
  railEn : Bool
  railLow : Bool
  mrst : Bool
  slp : Bool
  stp : Bool
  bsel : Bool
deriving DecidableEq, Repr

/-- PGOOD has returned in WAKING: the step timer times the wake limit (R89). -/
def Slot.pgoodReturned (x : Slot) : Bool :=
  match x.step with
  | some t => t.kind == .wake
  | none => false

/-- The levels of R51 for the slot's state, with BSEL by the fallback flag (R106). -/
def Slot.driven (x : Slot) : DrivenLines where
  railEn := x.state.railOn
  railLow := x.state == .asleep
  mrst :=
    match x.state with
    | .off | .queued | .powering | .releasing | .resetting | .faulted => true
    | .running | .sleepWait | .entering | .asleep | .waking | .stopping => false
  slp :=
    match x.state with
    | .entering | .asleep => true
    | .waking => !x.pgoodReturned
    | .off | .queued | .powering | .releasing | .running | .resetting | .sleepWait | .stopping
    | .faulted => false
  stp := x.state == .stopping
  bsel := x.fallback

/-- The lines of a part that does not run: every slot's rail off and its module in reset, the other
lines released (R158). -/
def DrivenLines.held : DrivenLines where
  railEn := false
  railLow := false
  mrst := true
  slp := false
  stp := false
  bsel := false

/-- The levels the part drives on a slot's output lines (R51, R106, R158). -/
def State.driven (s : State) (i : SlotId) : DrivenLines :=
  if s.phase = .running then (s.slot i).driven else DrivenLines.held

/-- The states in which a qualified PGOOD release is a loss (R52, R68). -/
def Slot.watchesLoss (x : Slot) : Bool :=
  match x.state with
  | .releasing | .running | .resetting | .sleepWait | .entering | .stopping => true
  | .waking => x.pgoodReturned
  | .off | .queued | .powering | .asleep | .faulted => false

/-- A slot is in POWERING or RELEASING. -/
def State.powerUpBusy (s : State) : Bool :=
  (List.finRange 6).any fun i => (s.lifeOf i).inPowerUp

/-- The slot in POWERING or RELEASING, if any (R132). -/
def State.powerUpSlot (s : State) : Option SlotId :=
  (List.finRange 6).find? fun i => (s.lifeOf i).inPowerUp

/-! ### Flags bytes (sections 10.5.3 to 10.5.6) -/

/-- A byte from its bits, bit 0 first. -/
def flagsByte (bits : List Bool) : Byte :=
  BitVec.ofNat 8 (bits.foldr (fun b acc => (if b then 1 else 0) + 2 * acc) 0)

/-- A two-byte number from its bits, bit 0 first. -/
def flagsHalf (bits : List Bool) : Half :=
  BitVec.ofNat 16 (bits.foldr (fun b acc => (if b then 1 else 0) + 2 * acc) 0)

/-- Flags of an entry report; bits 5 to 7 are the place code. -/
def State.entryFlags (s : State) (e : EntryId) : Byte :=
  let x := s.entry e
  flagsByte [x.enabled, sessionClass e, x.latched, (x.latch.bind Latch.detail).isSome,
    s.levelActive e] + natByte (32 * s.placeCode e)

/-- Flags of SLOT_READ. -/
def State.slotFlags (s : State) (i : SlotId) : Byte :=
  let x := s.slot i
  flagsByte [s.isPresent i, s.listed i, x.deferredWake.isSome, x.override, x.fallback,
    x.expiredOnce, (x.pendingSleep.map PendingSleep.verdictAwaited).getD false,
    x.buttonHold.isSome]

/-- The driven lines byte of SLOT_READ. -/
def DrivenLines.flags (d : DrivenLines) : Byte :=
  flagsByte [d.railEn, d.railLow, d.mrst, d.slp, d.stp, d.bsel]

/-- Flags of STAGE_READ. -/
def State.stageFlags (s : State) : Byte :=
  flagsByte [s.railGood, s.staging.settleTimer.isSome, s.staging.firstReturn, s.hot,
    s.staging.shedEnable, s.staging.restore != .clear]

/-- The input line levels of one slot for INPUT_READ. -/
def SlotLines.levels (l : SlotLines) : Half :=
  flagsHalf [l.pgood.level, l.rdy.level, l.wake.level, l.alert.level, l.slpReq.level,
    l.hbeat.level, l.act.level, l.btn.level, l.present.level]

end Sys2Proof.Machine
end

