-- ==== Sys2Proof/Machine/Operands.lean ====
section
/-! DEFINITION. The operand forms of the requests: how a field's bytes become a value, and which bytes
are out of range (R166, sections 10.4 and 10.7); and the codes sent back. -/

namespace Sys2Proof.Machine

/-! ### Fields of a request -/

/-- A slot number, 1 to 6. -/
def slotField (b : Byte) : Option SlotId :=
  if h : 1 ≤ b.toNat ∧ b.toNat ≤ 6 then some ⟨b.toNat - 1, by omega⟩ else none

/-- An entry index, 0 to 59. -/
def entryField (b : Byte) : Option EntryId :=
  if h : b.toNat < 60 then some ⟨b.toNat, h⟩ else none

/-- A number that must lie in a range. -/
def rangeField (lo hi : Nat) (n : Nat) : Option Nat := if lo ≤ n ∧ n ≤ hi then some n else none

/-- A boolean: 00h or 01h. -/
def boolField (b : Byte) : Option Bool :=
  if b = 0 then some false else if b = 1 then some true else none

/-- A slot set: bits 6 and 7 name no slot. -/
def slotSetField (b : Byte) : Option SlotSet :=
  if b.toNat < 64 then some (b.extractLsb' 0 6) else none

/-- An entry set: eight bytes, high byte first; bits 60 to 63 name no entry. -/
def entrySetField (bytes : List Byte) : Option (BitVec 60) :=
  let n := bytes.foldl (fun acc b => acc * 256 + b.toNat) 0
  if n < 2 ^ 60 then some (BitVec.ofNat 60 n) else none

/-- A trigger code; PULSE for the internal sources alone, the others for the line sources alone
(R7, R19). -/
def triggerField (e : EntryId) (b : Byte) : Option Trigger :=
  match (match b.toNat with
    | 0 => some Trigger.rise
    | 1 => some Trigger.fall
    | 2 => some Trigger.both
    | 3 => some Trigger.high
    | 4 => some Trigger.low
    | 5 => some Trigger.pulse
    | _ => none) with
  | some t => if decide (e.val < 24) = (t != .pulse) then some t else none
  | none => none

/-- A route code. -/
def routeField (b : Byte) : Option Route :=
  match b.toNat with
  | 0 => some .none
  | 1 => some .priority
  | 2 => some .routine
  | _ => none

/-- A channel code. -/
def channelField (b : Byte) : Option ChannelId :=
  match b.toNat with
  | 1 => some .priority
  | 2 => some .routine
  | _ => none

/-- A GEI line number, 0 to 11. -/
def geiField (b : Byte) : Option GeiLine :=
  if h : b.toNat < 12 then some ⟨b.toNat, h⟩ else none

/-- A timer or post number, 1 to 4. -/
def fourField (b : Byte) : Option (Fin 4) :=
  if h : 1 ≤ b.toNat ∧ b.toNat ≤ 4 then some ⟨b.toNat - 1, by omega⟩ else none

/-- A timer mode code. -/
def timerModeField (b : Byte) : Option TimerMode :=
  match b.toNat with
  | 0 => some .once
  | 1 => some .repeats
  | _ => none

/-- A verdict code. -/
def verdictField (b : Byte) : Option Verdict :=
  match b.toNat with
  | 0 => some .deny
  | 1 => some .grant
  | _ => none

/-- A sleep mode code: Force is true. -/
def sleepModeField (b : Byte) : Option Bool := boolField b

/-- A recovery clear scope code: ALL is true. -/
def scopeField (b : Byte) : Option Bool := boolField b

/-- An idle action code. -/
def idleActionField (b : Byte) : Option IdleAction :=
  match b.toNat with
  | 0 => some .none
  | 1 => some .sleep
  | _ => none

/-- A resume policy code. -/
def resumeField (b : Byte) : Option ResumePolicy :=
  match b.toNat with
  | 0 => some .off
  | 1 => some .restore
  | 2 => some .on
  | _ => none

/-- A shed action code. -/
def shedActionField (b : Byte) : Option ShedAction :=
  match b.toNat with
  | 0 => some .sleep
  | 1 => some .stop
  | _ => none

/-- The configuration block of 19 bytes (section 10.4), each value in the range of R58. -/
def slotConfigField (bytes : List Byte) : Option SlotConfig :=
  match bytes with
  | [b0, b1, b2, b3, b4, b5, b6, b7, b8, b9, b10, b11, b12, b13, b14, b15, b16, b17, b18] => do
    let powerUpLimit ← rangeField 1 255 b0.toNat
    let resetHold ← rangeField 1 255 b1.toNat
    let sleepEntryLimit ← rangeField 1 255 b2.toNat
    let wakeLimit ← rangeField 1 255 b3.toNat
    let stopLimit ← rangeField 1 255 b4.toNat
    let offTime ← rangeField 1 255 b5.toNat
    let intercept ← boolField b6
    let verdictLimit ← rangeField 1 255 b7.toNat
    let defaultVerdict ← verdictField b8
    let idleAction ← idleActionField b10
    let idleLimit ← rangeField 1 4095 (halfOf b11 b12).toNat
    let overrideTime ← rangeField 1 15 b14.toNat
    let resumePolicy ← resumeField b15
    let wakeFromOff ← boolField b16
    let shedRank ← rangeField 0 6 b17.toNat
    let shedAction ← shedActionField b18
    return { powerUpLimit, resetHold, sleepEntryLimit, wakeLimit, stopLimit, offTime, intercept,
             verdictLimit, defaultVerdict, holdWaitLimit := b9.toNat, idleAction, idleLimit,
             supervisionInterval := b13.toNat, overrideTime, resumePolicy, wakeFromOff, shedRank,
             shedAction }
  | _ => none

/-! ### Codes sent in replies and notices (sections 10.3 and 10.7) -/

/-- The results of R169. -/
inductive Result where
  | done | queued | badCode | badLength | badValue | busy | wrongState | absent | noRail
  | stillActive | notOutstanding | closed
deriving DecidableEq, Repr

/-- The result codes of R169. -/
def Result.code : Result → Byte
  | .done => 0x00
  | .queued => 0x01
  | .badCode => 0x02
  | .badLength => 0x03
  | .badValue => 0x04
  | .busy => 0x05
  | .wrongState => 0x06
  | .absent => 0x07
  | .noRail => 0x08
  | .stillActive => 0x09
  | .notOutstanding => 0x0A
  | .closed => 0x0B

/-- Trigger codes. -/
def Trigger.code : Trigger → Byte
  | .rise => 0
  | .fall => 1
  | .both => 2
  | .high => 3
  | .low => 4
  | .pulse => 5

/-- Route codes. -/
def Route.code : Route → Byte
  | .none => 0
  | .priority => 1
  | .routine => 2

/-- Channel codes. -/
def channelCode : ChannelId → Byte
  | .priority => 1
  | .routine => 2

/-- Channel state codes. -/
def ChannelState.code : ChannelState → Byte
  | .closed => 0
  | .idle => 1
  | .offered => 2
  | .servicing => 3
  | .stalled => 4

/-- Restart reason codes (R160). -/
def RestartReason.code : RestartReason → Byte
  | .power => 1
  | .pin => 2
  | .request => 3

/-- Step codes. -/
def StepKind.code : StepKind → Byte
  | .powerUp => 1
  | .resetHold => 2
  | .sleepEntry => 3
  | .wake => 4
  | .stop => 5
  | .holdWait => 6

/-- Pending sleep origin codes; LINE and IDLE are also the details of a sleep-request entry (R77). -/
def SleepOrigin.code : SleepOrigin → Byte
  | .line => 1
  | .idle => 2
  | .host => 3

/-- Verdict codes. -/
def Verdict.code : Verdict → Byte
  | .deny => 0
  | .grant => 1

/-- Idle action codes. -/
def IdleAction.code : IdleAction → Byte
  | .none => 0
  | .sleep => 1

/-- Resume policy codes. -/
def ResumePolicy.code : ResumePolicy → Byte
  | .off => 0
  | .restore => 1
  | .on => 2

/-- Shed action codes. -/
def ShedAction.code : ShedAction → Byte
  | .sleep => 0
  | .stop => 1

/-- Timer state codes. -/
def TimerState.code : TimerState → Byte
  | .stopped => 0
  | .running => 1

/-- Timer mode codes. -/
def TimerMode.code : TimerMode → Byte
  | .once => 0
  | .repeats => 1

/-- Slot number n of an index. -/
def slotNumber (i : SlotId) : Byte := natByte (i.val + 1)

/-- The configuration block as SLOT_READ returns it (section 10.4). -/
def SlotConfig.bytes (c : SlotConfig) : List Byte :=
  [natByte c.powerUpLimit, natByte c.resetHold, natByte c.sleepEntryLimit, natByte c.wakeLimit,
   natByte c.stopLimit, natByte c.offTime, boolByte c.intercept, natByte c.verdictLimit,
   c.defaultVerdict.code, natByte c.holdWaitLimit, c.idleAction.code] ++ natHalf c.idleLimit ++
  [natByte c.supervisionInterval, natByte c.overrideTime, c.resumePolicy.code,
   boolByte c.wakeFromOff, natByte c.shedRank, c.shedAction.code]

/-! ### The outcome of a request at its owner -/

/-- What an owner gives back: the state and the reply payload (R169). -/
structure Answered where
  state : State
  reply : List Byte
deriving DecidableEq, Repr

/-- A reply of the result byte alone (R169). -/
def answer (r : Result) (s : State) : Answered := { state := s, reply := [r.code] }

/-- A reply with values (R169). -/
def answerWith (r : Result) (values : List Byte) (s : State) : Answered :=
  { state := s, reply := r.code :: values }

end Sys2Proof.Machine
end

