-- ==== Sys2Proof/Machine/Channels.lean ====
section
/-! DEFINITION. Notice Channels (spec 02): pending lists, composition, offer, service, return, and the
four requests. -/

namespace Sys2Proof.Machine

/-! ### Composition (R30, R31) -/

/-- The record of an entry as a notice item (R31). A pending entry is latched (R28), so the second case
reports nothing that happens. -/
def State.itemOf (s : State) (e : EntryId) : NoticeItem :=
  match (s.entry e).latch with
  | some l => { entry := e, count := l.count, firstTime := l.firstTime, detail := l.detail }
  | none => { entry := e, count := 0, firstTime := 0, detail := none }

/-- A channel that has composed its next notice (R30, steps 1 to 6). -/
def Channel.composed (ch : Channel) (itemOf : EntryId → NoticeItem) : Channel :=
  { ch with
    state := .offered
    pending := ch.pending.drop ch.itemLimit
    inFlight := ch.pending.take ch.itemLimit
    items := (ch.pending.take ch.itemLimit).map itemOf
    remaining := (ch.pending.drop ch.itemLimit).length
    number := ch.number + 1
    retryCount := 0
    sendWaiting := true
    offerTimer := .waiting }

/-- A channel composes at any moment at which it is IDLE with a non-empty pending list (R30). -/
def compose (c : ChannelId) (s : State) : State :=
  if (s.channel c).state = .idle ∧ (s.channel c).pending ≠ [] then
    s.setChannel c ((s.channel c).composed s.itemOf)
  else s

/-! ### Joining and leaving a pending list (R28) -/

/-- An entry joins the tail of a pending list; a join of an IDLE channel's list leads it to compose. -/
def joinTail (c : ChannelId) (e : EntryId) (s : State) : State :=
  compose c (s.setChannel c { s.channel c with pending := (s.channel c).pending ++ [e] })

/-- A pending list without an entry; those behind it close up. -/
def Channel.without (ch : Channel) (e : EntryId) : Channel :=
  { ch with pending := ch.pending.filter (· ≠ e) }

/-- An entry leaves whichever pending list holds it. -/
def dropPending (e : EntryId) (s : State) : State :=
  { s with priority := s.priority.without e, routine := s.routine.without e }

/-- An entry joins its route's pending list unless it is unrouted, pending there or in flight
(R9, R10). -/
def joinIfUnplaced (e : EntryId) (s : State) : State :=
  match (s.entry e).route.channel? with
  | some c => if s.inFlight e || s.pendingIn c e then s else joinTail c e s
  | none => s

/-! ### The end of a notice (R33, R36, R39) -/

/-- The entry's present record sends it to this channel's list: latched, enabled and routed there. -/
def State.belongsTo (s : State) (c : ChannelId) (e : EntryId) : Bool :=
  (s.entry e).enabled && (s.entry e).latched && (s.entry e).route.channel? == some c

/-- The return procedure (R33): this channel's own entries go to the front of its list in notice order,
those now routed to the other channel join that channel's tail, the rest go nowhere. -/
def returnEntries (c : ChannelId) (s : State) : State :=
  let ch := s.channel c
  let back := ch.inFlight.filter (s.belongsTo c)
  let across := ch.inFlight.filter (s.belongsTo (otherChannel c))
  let emptied := s.setChannel c { ch with inFlight := [], items := [], pending := back ++ ch.pending }
  across.foldl (fun s e => joinTail (otherChannel c) e s) emptied

/-- A channel whose offer or service is over: both timers stop and a sending that has not begun is
withdrawn (R34, R38, R39). -/
def Channel.quiet (ch : Channel) : Channel :=
  { ch with offerTimer := .stopped, serviceTimer := none, sendWaiting := false }

/-- A notice ends: the timers stop, its entries are handed back, and the channel takes a state. -/
def endNotice (c : ChannelId) (target : ChannelState) (s : State) : State :=
  let returned := returnEntries c (s.setChannel c (s.channel c).quiet)
  returned.setChannel c { returned.channel c with state := target }

/-- The settlement of a notice (R39): the channel becomes IDLE and composes at once if it can. -/
def settleNotice (c : ChannelId) (s : State) : State := compose c (endNotice c .idle s)

/-- The last offer timeout (R36). -/
def stall (c : ChannelId) (s : State) : State :=
  let ended := endNotice c .stalled s
  ended.setChannel c { ended.channel c with stallCount := satInc (ended.channel c).stallCount }

/-- The offer timer of an OFFERED channel runs out (R35). -/
def offerRunsOut (c : ChannelId) (s : State) : State :=
  let ch := s.channel c
  match ch.state, ch.offerTimer with
  | .offered, .running _ =>
    if ch.retryCount < ch.retries then
      s.setChannel c
        { ch with retryCount := ch.retryCount + 1, sendWaiting := true, offerTimer := .waiting }
    else stall c s
  | _, _ => s

/-- The service timer of a SERVICING channel runs out (R40). -/
def serviceRunsOut (c : ChannelId) (s : State) : State :=
  let ch := s.channel c
  match ch.state, ch.serviceTimer with
  | .servicing, some _ =>
    settleNotice c (s.setChannel c { ch with overrunCount := satInc ch.overrunCount })
  | _, _ => s

/-! ### On the link (R34, R46, R49) -/

/-- A notice item's bytes (section 10.6). -/
def NoticeItem.bytes (x : NoticeItem) : List Byte :=
  [natByte x.entry.val, boolByte x.detail.isSome, x.count] ++ wordBytes x.firstTime ++
    (match x.detail with
      | some d => halfBytes d
      | none => [])

/-- The notice frame a channel sends and re-sends (R31, R45, section 10.6). -/
def Channel.noticeFrame (ch : Channel) (c : ChannelId) : Frame where
  seq := ch.number
  kind := 0x03
  payload := [channelCode c, natByte ch.remaining, natByte ch.items.length] ++
    ch.items.flatMap NoticeItem.bytes

/-- The end of a notice frame on TXD (R34, R47). -/
def Channel.sent (ch : Channel) : Channel :=
  { ch with
    offersSent := satInc ch.offersSent
    offerTimer :=
      if ch.state = .offered ∧ ch.sendWaiting = false then .running Config.offerTimeout
      else ch.offerTimer }

/-- A link reset at a channel (R46). -/
def Channel.linkReset (ch : Channel) : Channel :=
  if ch.state = .offered then
    { ch with offerTimer := .waiting, retryCount := 0, sendWaiting := true }
  else ch

/-- A warm restart at a channel (R49), with its rebuilt pending list (R50). -/
def Channel.restarted (ch : Channel) (pending : List EntryId) : Channel :=
  { ch.quiet with
    state := .closed
    pending := pending
    inFlight := []
    items := []
    retryCount := 0
    remaining := 0 }

/-! ### Requests -/

/-- CHANNEL_OPEN (R42). -/
def channelOpen (args : List Byte) (s : State) : Answered :=
  match args with
  | [b1, b2, b3, b4] =>
    match channelField b1, rangeField 1 12 b2.toNat, rangeField 0 7 b3.toNat with
    | some c, some limit, some retries =>
      let ch := s.channel c
      match ch.state with
      | .closed | .stalled | .idle =>
        let opened := { ch with state := .idle, itemLimit := limit, retries := retries,
                                serviceLimit := b4.toNat }
        answer .done (compose c (s.setChannel c opened))
      | .offered | .servicing => answer .busy s
    | _, _, _ => answer .badValue s
  | _ => answer .badLength s

/-- CHANNEL_CLOSE (R43). -/
def channelClose (args : List Byte) (s : State) : Answered :=
  match args with
  | [b1] =>
    match channelField b1 with
    | some c =>
      match (s.channel c).state with
      | .offered | .servicing => answer .done (endNotice c .closed s)
      | .idle | .stalled => answer .done (s.setChannel c { s.channel c with state := .closed })
      | .closed => answer .done s
    | none => answer .badValue s
  | _ => answer .badLength s

/-- An OFFERED notice is taken into service (R38). -/
def Channel.accepted (ch : Channel) : Channel :=
  { ch.quiet with
    state := .servicing
    serviceTimer := if ch.serviceLimit = 0 then none else some (ch.serviceLimit * 100) }

/-- ACCEPT (R37, R38). -/
def acceptNotice (args : List Byte) (s : State) : Answered :=
  match args with
  | [b1, number] =>
    match channelField b1 with
    | some c =>
      let ch := s.channel c
      match ch.state with
      | .closed => answer .closed s
      | .idle | .stalled => answer .notOutstanding s
      | .offered =>
        if ch.number = number then answer .done (s.setChannel c ch.accepted)
        else answer .notOutstanding s
      | .servicing => if ch.number = number then answer .done s else answer .notOutstanding s
    | none => answer .badValue s
  | _ => answer .badLength s

/-- SETTLE (R37, R39). -/
def settleRequest (args : List Byte) (s : State) : Answered :=
  match args with
  | [b1, number] =>
    match channelField b1 with
    | some c =>
      let ch := s.channel c
      match ch.state with
      | .closed => answer .closed s
      | .idle | .stalled => answer .notOutstanding s
      | .offered | .servicing =>
        if ch.number = number then answer .done (settleNotice c s) else answer .notOutstanding s
    | none => answer .badValue s
  | _ => answer .badLength s

end Sys2Proof.Machine
end

