-- ==== Sys2Proof/Machine/EventTable.lean ====
section
/-! DEFINITION. The Event Table (spec 01): occurrences, holds, configuration changes, clearing, the
order of first times, and the requests that read and set it. -/

namespace Sys2Proof.Machine

/-! ### Holds (R12) -/

/-- The slots an entry's hold is effective on: its hold set while it is enabled and latched (R12). -/
def Entry.effectiveHold (x : Entry) : SlotSet :=
  if x.enabled && x.latched then x.holdSet else 0

/-- A hold count after an entry's contribution has gone from `old` to `new` (R19, step 1). -/
def holdsAfter (old new : Bool) (n : Nat) : Nat :=
  match old, new with
  | false, true => n + 1
  | true, false => n - 1
  | _, _ => n

/-- The Event Table tells each slot of the rise or fall of one in its hold count (R12). -/
def adjustHolds (old new : SlotSet) (s : State) : State :=
  s.mapSlots fun i x =>
    { x with holds := holdsAfter (old.getLsbD i.val) (new.getLsbD i.val) x.holds }

/-- Every change of an entry's record: the record is written and the hold counts follow it, so that an
entry adds at most one to any slot's hold count (R12). -/
def replaceEntry (e : EntryId) (x : Entry) (s : State) : State :=
  adjustHolds (s.entry e).effectiveHold x.effectiveHold (s.setEntry e x)

/-! ### Occurrences (R9, R10, R11) -/

/-- An entry after one occurrence: latched afresh with count 1 (R9), or counted with a carried detail
replacing the old one (R10). -/
def Entry.record (x : Entry) (now : Word) (detail : Option Half) : Entry :=
  match x.latch with
  | none => { x with latch := some { count := 1, firstTime := now, detail := detail } }
  | some l =>
    { x with
      latch := some { l with
        count := satInc l.count
        detail := match detail with
          | some d => some d
          | none => l.detail } }

/-- Wake requests of origin WAKE_EVENT go out to each slot of a wake set (R11). They are taken by their
slots once the step has been carried out whole (R171; log 6). -/
def sendWakes (set : SlotSet) (s : State) : State :=
  s.setWakes (s.wakes ++ (slotsOf set).map fun i => { slot := i, origin := .wakeEvent })

/-- One occurrence on an entry (R9, R10). -/
def occur (e : EntryId) (detail : Option Half) (s : State) : State :=
  let recorded := replaceEntry e ((s.entry e).record s.uptime detail) s
  if (s.entry e).enabled then sendWakes (s.entry e).wakeSet (joinIfUnplaced e recorded)
  else recorded

/-- A conditioned edge reaches a line-source entry, which takes an occurrence by its trigger (R7). -/
def edgeAt (e : EntryId) (rising : Bool) (s : State) : State :=
  if (s.entry e).trigger.takesEdge rising then occur e none s else s

/-! ### Clearing (R16) -/

/-- Clear an entry; a level-active entry is left as it is (R16). -/
def clearEntry (e : EntryId) (s : State) : State :=
  if s.levelActive e then s
  else dropPending e (replaceEntry e { s.entry e with latch := none } s)

/-- The Session-class entries, 51 to 59 (R3). -/
def sessionEntries : List EntryId := (List.finRange 60).filter sessionClass

/-- Warm restart clears the Session-class entries (R25). -/
def clearSession (s : State) : State := sessionEntries.foldl (fun s e => clearEntry e s) s

/-! ### Configuration (R13, R14, R15, R19) -/

/-- The pending place of an entry under its present record (R19, step 2). -/
def replace (e : EntryId) (s : State) : State :=
  let x := s.entry e
  match (if x.enabled && x.latched && !s.inFlight e then x.route.channel? else none) with
  | some c => if s.pendingIn c e then s else joinTail c e (dropPending e s)
  | none => dropPending e s

/-- The change of an entry from its old configuration to a new one, taken in one step (R19). -/
def reconfigure (e : EntryId) (new : Entry) (s : State) : State :=
  let placed := replace e (replaceEntry e { new with latch := (s.entry e).latch } s)
  if new.trigger ≠ (s.entry e).trigger ∧ placed.levelActive e then occur e none placed else placed

/-! ### The order of first times (R20, R50) -/

/-- The first time of an entry as a number; a clear entry has none and is never asked. -/
def State.firstTimeOf (s : State) (e : EntryId) : Nat :=
  ((s.entry e).latch.map fun l => l.firstTime.toNat).getD 0

/-- Put an entry into a list in first-time order, behind those no later than it. -/
def insertByTime (s : State) (e : EntryId) : List EntryId → List EntryId
  | [] => [e]
  | x :: rest =>
    if s.firstTimeOf x ≤ s.firstTimeOf e then x :: insertByTime s e rest else e :: x :: rest

/-- Entries in first-time order, oldest first, equal times by ascending index, when the list given is
ascending. -/
def State.byTime (s : State) (es : List EntryId) : List EntryId :=
  es.foldl (fun sorted e => insertByTime s e sorted) []

/-- The latched entries in first-time order (R20). -/
def State.latchedByTime (s : State) : List EntryId :=
  s.byTime ((List.finRange 60).filter fun e => (s.entry e).latched)

/-- The rebuilt pending list of a channel (R50). -/
def State.rebuiltList (s : State) (c : ChannelId) : List EntryId :=
  s.byTime ((List.finRange 60).filter (s.belongsTo c))

/-! ### Requests -/

/-- EVENT_CONFIG (R19). -/
def eventConfig (args : List Byte) (s : State) : Answered :=
  match args with
  | [b1, b2, b3, b4, b5, b6] =>
    match entryField b1 with
    | some e =>
      match boolField b2, triggerField e b3, routeField b4, slotSetField b5, slotSetField b6 with
      | some enabled, some trigger, some route, some wakeSet, some holdSet =>
        let new : Entry := { enabled, trigger, route, wakeSet, holdSet, latch := none }
        answer .done (reconfigure e new s)
      | _, _, _, _, _ => answer .badValue s
    | none => answer .badValue s
  | _ => answer .badLength s

/-- One entry report of EVENT_READ (R18, section 10.5.3). -/
def State.entryReport (s : State) (e : EntryId) : List Byte :=
  let x := s.entry e
  [natByte e.val, sourceKindCode e, s.entryFlags e, x.trigger.code, x.route.code,
    x.wakeSet.setWidth 8, x.holdSet.setWidth 8, (x.latch.map Latch.count).getD 0] ++
  wordBytes ((x.latch.map Latch.firstTime).getD 0) ++
  halfBytes ((x.latch.bind Latch.detail).getD 0)

/-- EVENT_READ (R18). -/
def eventRead (args : List Byte) (s : State) : Answered :=
  match args with
  | [b1, b2] =>
    let first := b1.toNat
    let number := b2.toNat
    if first < 60 ∧ 1 ≤ number ∧ number ≤ 8 ∧ first + number ≤ 60 then
      let es := (List.finRange 60).filter fun e => decide (first ≤ e.val ∧ e.val < first + number)
      answerWith .done ([b1, b2] ++ es.flatMap s.entryReport) s
    else answer .badValue s
  | _ => answer .badLength s

/-- EVENT_LIST (R20). -/
def eventList (args : List Byte) (s : State) : Answered :=
  match args with
  | [] =>
    let es := s.latchedByTime
    answerWith .done (natByte es.length :: es.map fun e => natByte e.val) s
  | _ => answer .badLength s

/-- The entries an entry set names, ascending. -/
def entriesOf (set : BitVec 60) : List EntryId :=
  (List.finRange 60).filter fun e => set.getLsbD e.val

/-- An entry set as eight bytes, high byte first: bit n of the number names entry n (R166). -/
def entrySetBytes (es : List EntryId) : List Byte :=
  (List.range 8).map fun k =>
    flagsByte ((List.range 8).map fun j => decide (8 * (7 - k) + j ∈ es.map Fin.val))

/-- EVENT_CLEAR (R22). -/
def eventClear (args : List Byte) (s : State) : Answered :=
  if args.length = 8 then
    match entrySetField args with
    | some set =>
      let named := entriesOf set
      let stuck := named.filter s.levelActive
      let cleared := named.foldl (fun s e => clearEntry e s) s
      answerWith (if stuck = [] then .done else .stillActive) (entrySetBytes stuck) cleared
    | none => answer .badValue s
  else answer .badLength s

/-- INPUT_CONFIG (R21): the new time applies to the line's next debounce period. -/
def inputConfig (args : List Byte) (s : State) : Answered :=
  match args with
  | [b1, b2] =>
    match geiField b1 with
    | some n =>
      let times := s.board.geiDebounce.set n.val b2.toNat n.isLt
      answer .done (s.setBoard { s.board with geiDebounce := times })
    | none => answer .badValue s
  | _ => answer .badLength s

/-- INPUT_READ (R23, section 10.5.4). -/
def inputRead (args : List Byte) (s : State) : Answered :=
  match args with
  | [] =>
    let gei := flagsHalf ((List.finRange 12).map fun n => (s.geiLine n).level)
    let boardLines := flagsByte [s.board.mainGood.level, s.board.therm.level]
    let slotLines := (List.finRange 6).flatMap fun i => halfBytes (s.lineSet i).levels
    let times := (List.finRange 12).map fun n => natByte s.board.geiDebounce[n]
    answerWith .done (halfBytes gei ++ [boardLines] ++ slotLines ++ times) s
  | _ => answer .badLength s

end Sys2Proof.Machine
end

