-- ==== Sys2Proof/Machine/Transitions.lean ====
section
/-! DEFINITION. The one operation by which a slot changes state (R53, R54, R56, R64, R97, R99, R116,
R124, R129), the steps of the slot sequencer built on it (spec 03, 04), wake requests (R90), the start
queue (R114, R115), restore (R129), and the finish of a step. -/

namespace Sys2Proof.Machine

/-! ### The record of a slot after a transition -/

/-- The heartbeat timer at an entry into RUNNING (R99). -/
def SlotConfig.freshHeartbeat (c : SlotConfig) : Option Nat :=
  if c.supervisionInterval = 0 then none else some (c.supervisionInterval * 100)

/-- The idle monitor at an entry into RUNNING (R96). -/
def SlotConfig.freshIdle (c : SlotConfig) : Option Nat :=
  match c.idleAction with
  | .none => Option.none
  | .sleep => some (c.idleLimit * 1000)

/-- The slot's record after a transition. The cut of a rail that was on starts the off timer (R53). The
pending sleep record with its timers and the deferred-wake flag go with the state that held them (R81,
R84, R85, R86, R97). Supervision and the idle monitor start afresh at RUNNING and stop elsewhere (R64,
R96, R99). -/
def Slot.moved (x : Slot) (target : LifeState) (cause : Cause) (now : Word)
    (step : Option StepTimer) : Slot :=
  { x with
    state := target
    last := some { cause := cause, time := now }
    step := step
    offTimer := if x.state.railOn && !target.railOn then 0 else x.offTimer
    deferredWake := none
    pendingSleep := none
    verdictTimer := none
    heartbeat := if target = .running then x.config.freshHeartbeat else none
    expiredOnce := false
    idleTimer := if target = .running then x.config.freshIdle else none }

/-- The cause the step under way carries to its end: that of the last transition (R55, R76, R89; log
15). -/
def Slot.carriedCause (x : Slot) : Cause := (x.last.map Transition.cause).getD .host

/-! ### What the Staging Unit does at a transition -/

/-- A slot leaves the start queue; those behind it close up (R114). -/
def Staging.withoutQueued (u : Staging) (i : SlotId) : Staging :=
  { u with startQueue := u.startQueue.filter fun p => p.slot ≠ i }

/-- The stagger timer starts with the gap as it stands; a gap of 0 leaves it stopped (R116). -/
def Staging.staggered (u : Staging) : Staging :=
  { u with staggerTimer := if u.staggerGap = 0 then none else some (u.staggerGap * 10) }

/-- A listed slot leaves the shed list; a list that becomes empty sets the shed level to 0 and ends a
restore (R124). -/
def Staging.unlisted (u : Staging) (i : SlotId) : Staging :=
  if u.shedList.any fun p => p.slot == i then
    let rest := u.shedList.filter fun p => p.slot ≠ i
    if rest = [] then { u with shedList := rest, shedLevel := 0, restore := .clear }
    else { u with shedList := rest }
  else u

/-- The transitions that take a listed slot out of the shed list (R124). -/
def leavesShedList (target : LifeState) (cause : Cause) : Bool :=
  match target with
  | .running | .faulted => true
  | .off => cause != .shed
  | .queued | .powering | .releasing | .resetting | .sleepWait | .entering | .asleep | .waking
  | .stopping => false

/-- The states in which the slot under restore has settled (R129). -/
def settlesRestore (target : LifeState) : Bool :=
  match target with
  | .running | .off | .faulted => true
  | .queued | .powering | .releasing | .resetting | .sleepWait | .entering | .asleep | .waking
  | .stopping => false

/-- A slot leaves the start queue with QUEUED (R114). -/
def Staging.leftQueue (u : Staging) (i : SlotId) (before : LifeState) : Staging :=
  if before = .queued then u.withoutQueued i else u

/-- A power-up that ends starts the stagger gap (R116). -/
def Staging.leftPowerUp (u : Staging) (before target : LifeState) : Staging :=
  if before.inPowerUp && !target.inPowerUp then u.staggered else u

/-- A listed slot may leave the shed list with its transition (R124). -/
def Staging.leftShedList (u : Staging) (i : SlotId) (target : LifeState) (cause : Cause) : Staging :=
  if leavesShedList target cause then u.unlisted i else u

/-- The slot under restore may settle, so that the next one is to be taken (R129). -/
def Staging.restoreSettled (u : Staging) (i : SlotId) (target : LifeState) : Staging :=
  if settlesRestore target && u.restore == .watching i then { u with restore := .between } else u

/-- The Staging Unit is told of a slot's transition: the start queue, the stagger gap, the shed list and
the restore follow it. -/
def Staging.told (u : Staging) (i : SlotId) (before target : LifeState) (cause : Cause) : Staging :=
  (((u.leftQueue i before).leftPowerUp before target).leftShedList i target cause).restoreSettled i
    target

/-- The detail of a slot transition: state code high, cause code low (R56). -/
def transitionDetail (target : LifeState) (cause : Cause) : Half := halfOf target.code cause.code

/-- A transition of a slot (R54, R56): its record moves, the Staging Unit is told, and the transition
entry takes an occurrence for OFF, RUNNING, ASLEEP and FAULTED. -/
def enter (i : SlotId) (target : LifeState) (cause : Cause) (step : Option StepTimer)
    (s : State) : State :=
  let before := s.lifeOf i
  let moved := s.setSlot i ((s.slot i).moved target cause s.uptime step)
  let told := moved.setStaging (moved.staging.told i before target cause)
  if target.reported then
    occur (transitionEntry i) (some (transitionDetail target cause)) told
  else told

/-! ### Power-up (R60 to R63) -/

/-- A granted power-up claim: the slot enters QUEUED and joins the tail of the start queue (R60,
R114). -/
def enqueue (i : SlotId) (origin : QueueOrigin) (s : State) : State :=
  let queued := enter i .queued origin.cause none s
  queued.setStaging { queued.staging with
    startQueue := queued.staging.startQueue ++ [{ slot := i, origin := origin }] }

/-- What every power-up claim from OFF asks: the slot is OFF and present (R60), and the rail is GOOD
(R119). -/
def State.claimable (s : State) (i : SlotId) : Bool :=
  s.lifeOf i == .off && s.isPresent i && s.railGood

/-- What an automatic power-up asks besides: the override flag is clear (R111). -/
def State.autoClaimable (s : State) (i : SlotId) : Bool := s.claimable i && !(s.slot i).override

/-- RELEASING begins: the reset hold runs (R63). -/
def beginReleasing (i : SlotId) (s : State) : State :=
  let x := s.slot i
  enter i .releasing x.carriedCause (some { kind := .resetHold, left := x.config.resetHold }) s

/-- POWERING begins with the power-up limit, and ends at once when PGOOD is asserted (R61). -/
def beginPowering (i : SlotId) (cause : Cause) (s : State) : State :=
  let limit := (s.slot i).config.powerUpLimit * 10
  let powering := enter i .powering cause (some { kind := .powerUp, left := limit }) s
  if (powering.lineSet i).pgood.level then beginReleasing i powering else powering

/-- The head of the start queue, when all four conditions of R115 hold. -/
def State.releasable (s : State) : Option QueuePlace :=
  match s.staging.startQueue with
  | [] => none
  | p :: _ =>
    if s.powerUpBusy = false ∧ s.staging.staggerTimer = none ∧
        (s.slot p.slot).config.offTime * 100 ≤ (s.slot p.slot).offTimer ∧ s.railGood then
      some p
    else none

/-- The head is released at the first moment at which the four conditions hold (R115). -/
def releaseHead (s : State) : State :=
  match s.releasable with
  | some p => beginPowering p.slot p.origin.cause s
  | none => s

/-! ### Sleep (R76, R77, R81, R86) -/

/-- WAKING ends with RDY released (R89). -/
def endWaking (i : SlotId) (s : State) : State :=
  enter i .running (s.slot i).carriedCause none s

/-- The second step of WAKING: SLP is released, the wake limit runs, RDY is tested (R89). -/
def secondStepOfWaking (i : SlotId) (s : State) : State :=
  let x := s.slot i
  let second := s.setSlot i { x with step := some { kind := .wake, left := x.config.wakeLimit * 100 } }
  if (second.lineSet i).rdy.level then second else endWaking i second

/-- WAKING begins: full level, the power-up limit runs, PGOOD is tested (R89). -/
def beginWaking (i : SlotId) (cause : Cause) (s : State) : State :=
  let limit := (s.slot i).config.powerUpLimit * 10
  let waking := enter i .waking cause (some { kind := .powerUp, left := limit }) s
  if (waking.lineSet i).pgood.level then secondStepOfWaking i waking else waking

/-- RDY asserted in ENTERING: ASLEEP, or WAKING with a deferred wake (R86). -/
def readyInEntering (i : SlotId) (s : State) : State :=
  match (s.slot i).deferredWake with
  | none => enter i .asleep (s.slot i).carriedCause none s
  | some cause => beginWaking i cause s

/-- ENTERING begins: SLP is asserted, the sleep-entry limit runs, RDY is tested (R86). -/
def beginEntering (i : SlotId) (cause : Cause) (s : State) : State :=
  let limit := (s.slot i).config.sleepEntryLimit * 100
  let entering := enter i .entering cause (some { kind := .sleepEntry, left := limit }) s
  if (entering.lineSet i).rdy.level then readyInEntering i entering else entering

/-- STOPPING ends with the module's answer: cut, OFF with the stop's cause (R66). -/
def endStopping (i : SlotId) (s : State) : State :=
  enter i .off (s.slot i).carriedCause none s

/-- STOPPING begins: STP is asserted, the stop limit runs, RDY is tested (R66). From SLEEP_WAIT this is
the cancel by stop: the passage through RUNNING is recorded nowhere (R85). -/
def beginStopping (i : SlotId) (cause : Cause) (s : State) : State :=
  let limit := (s.slot i).config.stopLimit * 1000
  let stopping := enter i .stopping cause (some { kind := .stop, left := limit }) s
  if (stopping.lineSet i).rdy.level then endStopping i stopping else stopping

/-- RESETTING begins (R65). -/
def beginResetting (i : SlotId) (s : State) : State :=
  enter i .resetting .host (some { kind := .resetHold, left := (s.slot i).config.resetHold }) s

/-- A request of origin LINE or IDLE needs a verdict when the slot's intercept is on (R77). -/
def Slot.needsVerdict (x : Slot) (origin : SleepOrigin) : Bool :=
  x.config.intercept && origin != .host

/-- SLEEP_WAIT begins: the pending sleep record, the hold-wait and verdict timers, and, for an
intercepted request, an occurrence on the sleep-request entry (R77). -/
def beginSleepWait (i : SlotId) (origin : SleepOrigin) (s : State) : State :=
  let x := s.slot i
  let awaited := x.needsVerdict origin
  let hold : Option StepTimer :=
    if x.config.holdWaitLimit = 0 then none
    else some { kind := .holdWait, left := x.config.holdWaitLimit * 1000 }
  let waiting := enter i .sleepWait origin.cause hold s
  let recorded := waiting.setSlot i { waiting.slot i with
    pendingSleep := some { origin := origin, verdictAwaited := awaited }
    verdictTimer := if awaited then some (x.config.verdictLimit * 1000) else none }
  if awaited then
    occur (sleepRequestEntry i) (some (halfOf 0 origin.code)) recorded
  else recorded

/-- A sleep request of origin LINE, IDLE or HOST taken in RUNNING (R77). -/
def requestSleep (i : SlotId) (origin : SleepOrigin) (s : State) : State :=
  if (s.slot i).needsVerdict origin = false ∧ (s.slot i).holds = 0 then
    beginEntering i origin.cause s
  else beginSleepWait i origin s

/-- The slot waits in SLEEP_WAIT with no verdict awaited and no hold (R81). -/
def Slot.sleepReleasable (x : Slot) : Bool :=
  match x.state, x.pendingSleep with
  | .sleepWait, some p => !p.verdictAwaited && x.holds == 0
  | _, _ => false

/-- The slots whose waiting sleep is to be released (R81), ascending. -/
def State.sleepers (s : State) : List SlotId :=
  (List.finRange 6).filter fun i => (s.slot i).sleepReleasable

/-- The release of a waiting sleep into ENTERING (R81), with the cause it waited with. -/
def releaseSleep (s : State) (i : SlotId) : State :=
  match s.lifeOf i, (s.slot i).pendingSleep with
  | .sleepWait, some p => beginEntering i p.origin.cause s
  | _, _ => s

/-- Every sleep that has come to its moment is released (R81): which ones is fixed before the first
release, so that a hold which the end of one release brings to another slot comes behind that slot's own
moment and keeps it no longer. The lowest slot goes first (DESIGN CHOICE, log 28). -/
def releaseSleeps (s : State) : State := s.sleepers.foldl releaseSleep s

/-! ### Wake requests (R90 to R93) -/

/-- The origins a listed slot ignores (R93). -/
def WakeOrigin.ignoredWhenListed : WakeOrigin → Bool
  | .wakeEvent | .wakeLine => true
  | .host | .button | .shedRestore => false

/-- A wake in OFF (R92): a power-up claim of origin WAKE_FROM_OFF when all its conditions hold. -/
def wakeFromOff (i : SlotId) (origin : WakeOrigin) (s : State) : State :=
  if origin.ignoredWhenListed && (s.slot i).config.wakeFromOff && s.autoClaimable i then
    enqueue i .wakeFromOff s
  else s

/-- A wake request taken by its slot (R90), subject to the shed list (R93). -/
def wake (i : SlotId) (origin : WakeOrigin) (s : State) : State :=
  if s.listed i && origin.ignoredWhenListed then s
  else
    match s.lifeOf i with
    | .off => wakeFromOff i origin s
    | .sleepWait => enter i .running .overtaken none s
    | .entering =>
      s.setSlot i { s.slot i with
        deferredWake := some ((s.slot i).deferredWake.getD origin.cause) }
    | .asleep => beginWaking i origin.cause s
    | .queued | .powering | .releasing | .running | .resetting | .waking | .stopping | .faulted => s

/-! ### The shed list (R123, R124) -/

/-- A listed slot is taken out of the shed list (R72, R93, R124). -/
def unlist (i : SlotId) (s : State) : State := s.setStaging (s.staging.unlisted i)

/-- The slot at the tail of the shed list is taken for restore (R129). -/
def restoreNext (s : State) : State :=
  match s.staging.shedList.getLast? with
  | none => s.setStaging { s.staging with restore := .clear }
  | some p =>
    let taken := unlist p.slot (s.setStaging { s.staging with restore := .between })
    let watched :=
      if taken.staging.restore = .between then
        taken.setStaging { taken.staging with restore := .watching p.slot }
      else taken
    match p.action, taken.lifeOf p.slot with
    | .sleep, .asleep => wake p.slot .shedRestore watched
    | .stop, .off => if taken.autoClaimable p.slot then enqueue p.slot .shedRestore watched else taken
    | _, _ => taken

/-! ### The finish of a step -/

/-- The next piece of unfinished business of a step, carried out: the restore takes its next slot
(R129), and then the wake requests the step has sent are taken, in the order they were sent (R171;
log 6). -/
def nextBusiness (s : State) : Option State :=
  if s.staging.restore = .between then some (restoreNext s)
  else
    match s.wakes with
    | [] => none
    | w :: rest => some (wake w.slot w.origin (s.setWakes rest))

/-- Work off the unfinished business, one piece at a time. -/
def drain : Nat → State → State
  | 0, s => s
  | n + 1, s =>
    match nextBusiness s with
    | some s' => drain n s'
    | none => s

/-- The finish of a step: the sleeps it has freed are released (R81), its business is worked off, and
the head of the start queue is released if it can be (R115). -/
def finish (s : State) : State := releaseHead (drain Config.drainFuel (releaseSleeps s))

end Sys2Proof.Machine
end

