-- ==== Sys2Proof/Machine/Slots.lean ====
section
/-! DEFINITION. Slot Sequencing (spec 03): presence, power good and ready edges, step limits, and the
requests SLOT_CONFIG, SLOT_READ, SLOT_ON, SLOT_STOP, SLOT_CUT, SLOT_RESET and SLOT_FAULT_CLEAR. -/

namespace Sys2Proof.Machine

/-! ### Line edges -/

/-- PGOOD asserted (R52, R61, R89). -/
def pgoodRises (i : SlotId) (s : State) : State :=
  match s.lifeOf i with
  | .powering => beginReleasing i s
  | .waking => if (s.slot i).pgoodReturned then s else secondStepOfWaking i s
  | .off | .queued | .releasing | .running | .resetting | .sleepWait | .entering | .asleep
  | .stopping | .faulted => s

/-- A qualified PGOOD release: a power-good loss where it is watched as one (R68). -/
def pgoodFalls (i : SlotId) (s : State) : State :=
  if (s.slot i).watchesLoss then enter i .faulted .pgLost none s else s

/-- RDY asserted (R52, R66, R86). -/
def rdyRises (i : SlotId) (s : State) : State :=
  match s.lifeOf i with
  | .stopping => endStopping i s
  | .entering => readyInEntering i s
  | .off | .queued | .powering | .releasing | .running | .resetting | .sleepWait | .asleep
  | .waking | .faulted => s

/-- RDY released: the end of WAKING in its second step (R89). -/
def rdyFalls (i : SlotId) (s : State) : State :=
  if s.lifeOf i = .waking ∧ (s.slot i).pgoodReturned then endWaking i s else s

/-- A change of presence that changes no state sets the last cause and time and is an occurrence with
the code of the present state (R54, R56). -/
def presenceRecorded (i : SlotId) (cause : Cause) (s : State) : State :=
  let noted := s.setSlot i { s.slot i with last := some { cause := cause, time := s.uptime } }
  occur (transitionEntry i) (some (transitionDetail (s.lifeOf i) cause)) noted

/-- A removal, the present level being released (R70). In OFF it changes no state, but takes the slot
out of the shed list. -/
def moduleRemoved (i : SlotId) (s : State) : State :=
  if s.lifeOf i = .off then presenceRecorded i .removed (unlist i s)
  else enter i .off .removed none s

/-- An insertion, the present level being asserted (R71). -/
def moduleInserted (i : SlotId) (s : State) : State := presenceRecorded i .inserted s

/-! ### Step limits -/

/-- The power-up limit runs out in POWERING (R61). -/
def powerUpRunsOut (i : SlotId) (s : State) : State :=
  if s.lifeOf i = .powering then enter i .faulted .pgTimeout none s else s

/-- The reset hold of RELEASING ends (R63). -/
def resetHoldRunsOut (i : SlotId) (s : State) : State :=
  if s.lifeOf i = .releasing then enter i .running (s.slot i).carriedCause none s else s

/-- The reset hold of RESETTING ends (R65). -/
def resettingRunsOut (i : SlotId) (s : State) : State :=
  if s.lifeOf i = .resetting then enter i .running .host none s else s

/-- The stop limit runs out in STOPPING (R66). -/
def stopRunsOut (i : SlotId) (s : State) : State :=
  if s.lifeOf i = .stopping then enter i .off .stopTimeout none s else s

/-! ### Requests -/

/-- Every slot request checks its slot number first (section 3.10). -/
def onSlot (args : List Byte) (s : State) (f : SlotId → State → Answered) : Answered :=
  match args with
  | [b1] =>
    match slotField b1 with
    | some i => f i s
    | none => answer .badValue s
  | _ => answer .badLength s

/-- A host request carried out on a slot takes it out of the shed list (R72, R124). -/
def carriedOut (i : SlotId) (r : Result) (s : State) : Answered := answer r (unlist i s)

/-- The immediate effects of a new configuration on a slot's idle monitor and supervision (R59, R96,
R99). -/
def Slot.configured (x : Slot) (c : SlotConfig) : Slot :=
  let running := x.state == .running
  let idle :=
    match x.config.idleAction, c.idleAction with
    | .none, .sleep => if running then c.freshIdle else x.idleTimer
    | .sleep, .none => none
    | .none, .none => x.idleTimer
    | .sleep, .sleep => x.idleTimer
  let restarts := running && x.heartbeat.isNone
  let heartbeat :=
    if c.supervisionInterval = 0 then none
    else if restarts then c.freshHeartbeat else x.heartbeat
  let expired :=
    if c.supervisionInterval = 0 then false
    else if restarts then false else x.expiredOnce
  { x with config := c, idleTimer := idle, heartbeat := heartbeat, expiredOnce := expired }

/-- SLOT_CONFIG (R58, R59). -/
def slotConfig (args : List Byte) (s : State) : Answered :=
  match args with
  | b1 :: block =>
    if block.length = 19 then
      match slotField b1, slotConfigField block with
      | some i, some c => answer .done (s.setSlot i ((s.slot i).configured c))
      | _, _ => answer .badValue s
    else answer .badLength s
  | [] => answer .badLength s

/-- The values of SLOT_READ (R57, section 10.5.5, R170). -/
def State.slotReport (s : State) (i : SlotId) : List Byte :=
  let x := s.slot i
  [slotNumber i, x.state.code, s.slotFlags i, ((x.last.map Transition.cause).map Cause.code).getD 0] ++
  wordBytes ((x.last.map Transition.time).getD 0) ++
  [((x.step.map StepTimer.kind).map StepKind.code).getD 0] ++
  natWord ((x.step.map StepTimer.left).getD 0) ++
  natWord (if x.state.railOn then 0 else x.offTimer) ++
  [(x.stateAtLoss.map LifeState.code).getD 0xFF,
   if x.state = .queued then ((s.queueOrigin i).map fun o => o.cause.code).getD 0 else 0,
   natByte x.hostHolds, natByte x.holds, (x.deferredWake.map Cause.code).getD 0,
   (x.pendingSleep.map fun p => p.origin.code).getD 0] ++
  natWord (x.verdictTimer.getD 0) ++
  [natByte x.recoveryCount] ++
  natHalf (x.heartbeat.getD 0) ++
  natHalf (leftIn 1000 x.idleTimer) ++
  x.config.bytes ++
  [(s.driven i).flags]

/-- SLOT_READ (R57). -/
def slotRead (args : List Byte) (s : State) : Answered :=
  onSlot args s fun i s => answerWith .done (s.slotReport i) s

/-- SLOT_ON (R62). -/
def slotOn (args : List Byte) (s : State) : Answered :=
  onSlot args s fun i s =>
    match s.lifeOf i with
    | .off =>
      if s.isPresent i = false then answer .absent s
      else if s.railGood = false then answer .noRail s
      else
        let unlisted := unlist i s
        let cleared := unlisted.setSlot i { unlisted.slot i with override := false }
        answer .queued (enqueue i .host cleared)
    | .queued => carriedOut i .done s
    | .powering | .releasing | .running | .resetting | .sleepWait | .entering | .asleep | .waking
    | .stopping | .faulted => answer .wrongState s

/-- SLOT_STOP (R64, R66). -/
def slotStop (args : List Byte) (s : State) : Answered :=
  onSlot args s fun i s =>
    match s.lifeOf i with
    | .running | .sleepWait => carriedOut i .done (beginStopping i .host s)
    | .asleep | .queued => carriedOut i .done (enter i .off .host none s)
    | .off => carriedOut i .done s
    | .powering | .releasing | .resetting | .entering | .waking | .stopping => answer .busy s
    | .faulted => answer .wrongState s

/-- SLOT_CUT (R67). -/
def slotCut (args : List Byte) (s : State) : Answered :=
  onSlot args s fun i s =>
    match s.lifeOf i with
    | .off => carriedOut i .done s
    | .queued | .powering | .releasing | .running | .resetting | .sleepWait | .entering | .asleep
    | .waking | .stopping => carriedOut i .done (enter i .off .host none s)
    | .faulted => answer .wrongState s

/-- SLOT_RESET (R65). -/
def slotReset (args : List Byte) (s : State) : Answered :=
  onSlot args s fun i s =>
    match s.lifeOf i with
    | .running => carriedOut i .done (beginResetting i s)
    | .powering | .releasing | .resetting | .sleepWait | .entering | .waking | .stopping =>
      answer .busy s
    | .off | .queued | .asleep | .faulted => answer .wrongState s

/-- SLOT_FAULT_CLEAR (R69). -/
def slotFaultClear (args : List Byte) (s : State) : Answered :=
  onSlot args s fun i s =>
    match s.lifeOf i with
    | .faulted => carriedOut i .done (enter i .off .host none s)
    | .off | .queued | .powering | .releasing | .running | .resetting | .sleepWait | .entering
    | .asleep | .waking | .stopping => answer .wrongState s

end Sys2Proof.Machine
end

