-- ==== Sys2Proof/Machine/Sleep.lean ====
section
/-! DEFINITION. Sleep, Wake and Holds (spec 04): the sleep-path limits, verdicts, holds, the idle
monitor, and the requests SLOT_SLEEP, SLOT_WAKE, SLOT_VERDICT, SLOT_HOLD and SLOT_UNHOLD. -/

namespace Sys2Proof.Machine

/-! ### Limits of the sleep path -/

/-- The sleep-entry limit runs out (R86). -/
def sleepEntryRunsOut (i : SlotId) (s : State) : State :=
  if s.lifeOf i = .entering then enter i .running .entryTimeout none s else s

/-- The power-up limit runs out in the first step of WAKING (R89). -/
def wakingPowerUpRunsOut (i : SlotId) (s : State) : State :=
  if s.lifeOf i = .waking ∧ (s.slot i).pgoodReturned = false then
    enter i .faulted .pgTimeout none s
  else s

/-- The wake limit runs out in the second step of WAKING (R89). -/
def wakeRunsOut (i : SlotId) (s : State) : State :=
  if s.lifeOf i = .waking ∧ (s.slot i).pgoodReturned then enter i .faulted .wakeTimeout none s
  else s

/-- The hold-wait timer runs out (R84): with holds the sleep is abandoned, without the slot waits on for
its verdict alone. -/
def holdWaitRunsOut (i : SlotId) (s : State) : State :=
  let x := s.slot i
  match x.state, x.step with
  | .sleepWait, some _ =>
    if x.holds = 0 then s.setSlot i { x with step := none }
    else enter i .running .holdTimeout none s
  | _, _ => s

/-- A verdict taken by a slot whose sleep awaits one (R82): GRANT leaves the release to the finish of
the step (R81), DENY ends the sleep. -/
def applyVerdict (i : SlotId) (v : Verdict) (s : State) : State :=
  let x := s.slot i
  match v with
  | .grant =>
    s.setSlot i { x with
      pendingSleep := x.pendingSleep.map fun p => { p with verdictAwaited := false }
      verdictTimer := none }
  | .deny => enter i .running .denied none s

/-- The slot is in SLEEP_WAIT with a verdict awaited (R82). -/
def Slot.awaitsVerdict (x : Slot) : Bool :=
  x.state == .sleepWait && (x.pendingSleep.map PendingSleep.verdictAwaited).getD false

/-- The verdict timer runs out: the default verdict is applied (R83). -/
def verdictRunsOut (i : SlotId) (s : State) : State :=
  let x := s.slot i
  if x.awaitsVerdict && x.verdictTimer.isSome then applyVerdict i x.config.defaultVerdict s else s

/-! ### The idle monitor (R96) and SLPREQ (R78) -/

/-- The idle monitor runs out: it stops and makes a sleep request of origin IDLE (R96). -/
def idleRunsOut (i : SlotId) (s : State) : State :=
  let x := s.slot i
  match x.state, x.idleTimer with
  | .running, some _ => requestSleep i .idle (s.setSlot i { x with idleTimer := none })
  | _, _ => s

/-- A rise of ACT restarts a running idle monitor (R96). -/
def activity (i : SlotId) (s : State) : State :=
  let x := s.slot i
  match x.state, x.idleTimer with
  | .running, some _ => s.setSlot i { x with idleTimer := some (x.config.idleLimit * 1000) }
  | _, _ => s

/-- A conditioned rise of SLPREQ is a sleep request of origin LINE in RUNNING alone (R78). -/
def sleepLineRises (i : SlotId) (s : State) : State :=
  if s.lifeOf i = .running then requestSleep i .line s else s

/-! ### Requests -/

/-- A slot number and one coded value (SLOT_SLEEP, SLOT_VERDICT, SLOT_RECOVERY_CLEAR). -/
def onSlotWith {α : Type} (field : Byte → Option α) (args : List Byte) (s : State)
    (f : SlotId → α → State → Answered) : Answered :=
  match args with
  | [b1, b2] =>
    match slotField b1, field b2 with
    | some i, some v => f i v s
    | _, _ => answer .badValue s
  | _ => answer .badLength s

/-- SLOT_SLEEP (R94); Force is true. -/
def slotSleep (args : List Byte) (s : State) : Answered :=
  onSlotWith sleepModeField args s fun i force s =>
    match s.lifeOf i with
    | .running =>
      carriedOut i .done (if force then beginEntering i .host s else requestSleep i .host s)
    | .sleepWait => if force then carriedOut i .done (beginEntering i .host s) else answer .busy s
    | .asleep => carriedOut i .done s
    | .powering | .releasing | .resetting | .entering | .waking | .stopping => answer .busy s
    | .off | .queued | .faulted => answer .wrongState s

/-- SLOT_WAKE (R95): a wake request of origin HOST. -/
def slotWake (args : List Byte) (s : State) : Answered :=
  onSlot args s fun i s =>
    match s.lifeOf i with
    | .off | .faulted => answer .wrongState s
    | .asleep | .entering | .sleepWait | .queued | .powering | .releasing | .running | .resetting
    | .waking | .stopping => carriedOut i .done (wake i .host s)

/-- SLOT_VERDICT (R82). -/
def slotVerdict (args : List Byte) (s : State) : Answered :=
  onSlotWith verdictField args s fun i v s =>
    if (s.slot i).awaitsVerdict then carriedOut i .done (applyVerdict i v s)
    else answer .wrongState s

/-- SLOT_HOLD (R80). -/
def slotHold (args : List Byte) (s : State) : Answered :=
  onSlot args s fun i s =>
    let x := s.slot i
    if x.hostHolds < 15 then
      answer .done (s.setSlot i { x with hostHolds := x.hostHolds + 1, holds := x.holds + 1 })
    else answer .badValue s

/-- SLOT_UNHOLD (R80). -/
def slotUnhold (args : List Byte) (s : State) : Answered :=
  onSlot args s fun i s =>
    let x := s.slot i
    if 0 < x.hostHolds then
      answer .done (s.setSlot i { x with hostHolds := x.hostHolds - 1, holds := x.holds - 1 })
    else answer .wrongState s

/-- Warm restart discards every slot's host holds (R75, R98). -/
def discardHostHolds (s : State) : State :=
  s.mapSlots fun _ x => { x with hostHolds := 0, holds := x.holds - x.hostHolds }

end Sys2Proof.Machine
end

