-- ==== Sys2Proof/Machine/Staging.lean ====
section
/-! DEFINITION. The Staging Unit (spec 06): the main rail, resume policy, thermal shedding and its
restore, and the requests STAGE_CONFIG, STAGE_READ and SHED_CONFIG. -/

namespace Sys2Proof.Machine

/-! ### The start queue's timers -/

/-- The stagger timer runs out (R116); the finish of the step releases the head if it can (R115). -/
def staggerRunsOut (s : State) : State := s.setStaging { s.staging with staggerTimer := none }

/-- The head slot's off timer reaches its off time (R117); the finish of the step releases the head if
it can (R115). -/
def headOffTimeElapses (s : State) : State :=
  match s.staging.startQueue with
  | [] => s
  | p :: _ =>
    let x := s.slot p.slot
    s.setSlot p.slot { x with offTimer := max x.offTimer (x.config.offTime * 100) }

/-! ### The main rail -/

/-- A slot goes down with the main rail (R119, step 2): its state is recorded and it goes to OFF. OFF
and FAULTED slots stay as they are (step 3). -/
def railTakes (s : State) (i : SlotId) : State :=
  match s.lifeOf i with
  | .off | .faulted => s
  | .queued | .powering | .releasing | .running | .resetting | .sleepWait | .entering | .asleep
  | .waking | .stopping =>
    enter i .off .railLoss none (s.setSlot i { s.slot i with stateAtLoss := some (s.lifeOf i) })

/-- The Staging Unit's own part of a main-rail loss (R119, steps 1 and 4). -/
def Staging.emptied (u : Staging) : Staging :=
  { u with rail := .lost, startQueue := [], shedList := [], shedLevel := 0, escalationTimer := none,
           coolTimer := none, restore := .clear }

/-- A main-rail loss (R119), the slots in ascending order (log 7). Nothing in the step reads the rail
between its loss and the slots' going down, so that the Staging Unit's own part is written once. -/
def railLost (s : State) : State :=
  let down := (List.finRange 6).foldl railTakes s
  occur railLostEntry none (down.setStaging down.staging.emptied)

/-- A qualified MAINGOOD release: a loss when the rail is GOOD, else the end of a running settle
(R119, R120). -/
def mainGoodFalls (s : State) : State :=
  match s.staging.rail with
  | .good => railLost s
  | .lost => s.setStaging { s.staging with settleTimer := none }

/-- The origin of a slot queued by policy ON (R121). -/
def State.onOrigin (s : State) : QueueOrigin :=
  if s.staging.firstReturn && s.session.autostart then .autostart else .resume

/-- Resume policy at one slot (R121), with the origin of policy ON. -/
def resume (onOrigin : QueueOrigin) (s : State) (i : SlotId) : State :=
  if s.autoClaimable i then
    match (s.slot i).config.resumePolicy, (s.slot i).stateAtLoss with
    | .off, _ => s
    | .restore, none => s
    | .restore, some _ => enqueue i .resume s
    | .on, _ => enqueue i onOrigin s
  else s

/-- The escalation timer starts with the interval as it stands (R127). -/
def Staging.escalating (u : Staging) : Staging :=
  { u with escalationTimer := some (u.escalationInterval * 1000) }

/-- The rail's return (R120, steps 1 to 6). -/
def railReturns (s : State) : State :=
  let good := s.setStaging { s.staging with rail := .good, settleTimer := none }
  let resumed := (List.finRange 6).foldl (resume s.onOrigin) good
  let forgotten := resumed.mapSlots fun _ x => { x with stateAtLoss := none }
  let marked := forgotten.setStaging { forgotten.staging with firstReturn := false }
  let latched := occur railRestoredEntry none marked
  if latched.hot && latched.staging.shedEnable then
    latched.setStaging latched.staging.escalating
  else latched

/-- A conditioned MAINGOOD assertion starts the settle; a rail settle of 0 completes it at once
(R120). -/
def mainGoodRises (s : State) : State :=
  match s.staging.rail, s.staging.settleTimer with
  | .lost, none =>
    if s.staging.railSettle = 0 then railReturns s
    else s.setStaging { s.staging with settleTimer := some (s.staging.railSettle * 10) }
  | _, _ => s

/-- The settle timer runs out (R120). -/
def settleRunsOut (s : State) : State :=
  match s.staging.settleTimer with
  | some _ => railReturns s
  | none => s

/-! ### Escalation (R123, R125) -/

/-- A slot is eligible for shedding at a level (R125): RUNNING or SLEEP_WAIT, of rank 1 up to the level,
and not listed. -/
def State.eligible (s : State) (level : Nat) (i : SlotId) : Bool :=
  (s.lifeOf i == .running || s.lifeOf i == .sleepWait) &&
    decide (1 ≤ (s.slot i).config.shedRank ∧ (s.slot i).config.shedRank ≤ level) && !s.listed i

/-- The smallest level above the present one that finds an eligible slot (R125). -/
def State.nextLevel (s : State) : Option Nat :=
  (List.range' (s.staging.shedLevel + 1) (6 - s.staging.shedLevel)).find? fun level =>
    (List.finRange 6).any fun i => s.eligible level i

/-- A slot is shed (R123): appended to the shed list and handed to its sequencer by its action. -/
def shedSlot (s : State) (i : SlotId) : State :=
  let action := (s.slot i).config.shedAction
  let marked := s.setStaging { s.staging with
    shedList := s.staging.shedList ++ [{ slot := i, action := action }] }
  match action with
  | .sleep => beginEntering i .shed marked
  | .stop => beginStopping i .shed marked

/-- An escalation step (R125). -/
def escalate (s : State) : State :=
  match s.nextLevel with
  | none => s.setStaging { s.staging with escalationTimer := none }
  | some level =>
    let found := (List.finRange 6).filter (s.eligible level)
    let leveled := s.setStaging { s.staging with shedLevel := level }
    let shed := found.foldl shedSlot leveled
    shed.setStaging shed.staging.escalating

/-- The escalation timer runs out (R127). -/
def escalationRunsOut (s : State) : State :=
  match s.staging.escalationTimer with
  | some _ => escalate s
  | none => s

/-! ### Hot and cool (R126 to R128) -/

/-- HOT stops the cool timer and halts a restore in progress (R126, steps 1 and 2). -/
def Staging.heated (u : Staging) : Staging :=
  let u := { u with coolTimer := none }
  if u.restore = .clear then u else { u with restore := .clear, shedLevel := 0 }

/-- The thermal entry takes its occurrence, with the shed level as it stands as detail (R126,
step 4). -/
def latchThermal (s : State) : State :=
  occur thermalEntry (some (halfOf 0 (natByte s.staging.shedLevel))) s

/-- The thermal state becomes HOT, its level being asserted (R126). -/
def thermRises (s : State) : State :=
  let heated := s.setStaging s.staging.heated
  latchThermal (if heated.staging.shedEnable && heated.railGood then escalate heated else heated)

/-- The thermal state becomes COOL, its level being released (R127). -/
def thermFalls (s : State) : State :=
  let stopped := { s.staging with escalationTimer := none }
  s.setStaging
    (if s.railGood then { stopped with coolTimer := some (stopped.coolTime * 1000) } else stopped)

/-- The cool timer runs out: a restore begins if the shed list is non-empty (R128); the finish of the
step takes the first slot (R129). -/
def coolRunsOut (s : State) : State :=
  match s.staging.coolTimer with
  | none => s
  | some _ =>
    let stopped := { s.staging with coolTimer := none }
    s.setStaging (if stopped.shedList = [] then stopped else { stopped with restore := .between })

/-! ### Requests -/

/-- STAGE_CONFIG (R130). -/
def stageConfig (args : List Byte) (s : State) : Answered :=
  match args with
  | [b1, b2] =>
    answer .done (s.setStaging
      { s.staging with staggerGap := b1.toNat, railSettle := b2.toNat })
  | _ => answer .badLength s

/-- SHED_CONFIG (R131). -/
def shedConfig (args : List Byte) (s : State) : Answered :=
  match args with
  | [b1, b2, b3] =>
    match boolField b1, rangeField 1 255 b2.toNat, rangeField 1 255 b3.toNat with
    | some enable, some interval, some cool =>
      let set := s.setStaging
        { s.staging with shedEnable := enable, escalationInterval := interval, coolTime := cool }
      if enable = false then
        answer .done (set.setStaging { set.staging with escalationTimer := none })
      else if set.hot && set.railGood && set.staging.escalationTimer.isNone then
        answer .done (escalate set)
      else answer .done set
    | _, _, _ => answer .badValue s
  | _ => answer .badLength s

/-- Six pairs of slot and code, those beyond the list 00h 00h (section 10.5.6). -/
def sixPairs (pairs : List (SlotId × Byte)) : List Byte :=
  (List.range 6).flatMap fun k =>
    match pairs[k]? with
    | some p => [slotNumber p.1, p.2]
    | none => [0, 0]

/-- The slot under restore, if any. -/
def Restore.slot? : Restore → Option SlotId
  | .clear | .between => none
  | .watching i => some i

/-- A slot number, or 00h for none (R170). -/
def slotOrNone (i : Option SlotId) : Byte := (i.map slotNumber).getD 0

/-- The values of STAGE_READ (R132, section 10.5.6). -/
def State.stageReport (s : State) : List Byte :=
  let u := s.staging
  [s.stageFlags] ++ natHalf (u.settleTimer.getD 0) ++ [natByte u.staggerGap, natByte u.railSettle] ++
  natHalf (u.staggerTimer.getD 0) ++
  [slotOrNone s.powerUpSlot, natByte u.startQueue.length] ++
  sixPairs (u.startQueue.map fun p => (p.slot, p.origin.cause.code)) ++
  [natByte u.escalationInterval, natByte u.coolTime, natByte u.shedLevel,
   natByte (leftIn 1000 u.escalationTimer), natByte (leftIn 1000 u.coolTimer),
   slotOrNone u.restore.slot?, natByte u.shedList.length] ++
  sixPairs (u.shedList.map fun p => (p.slot, p.action.code))

/-- STAGE_READ (R132). -/
def stageRead (args : List Byte) (s : State) : Answered :=
  match args with
  | [] => answerWith .done s.stageReport s
  | _ => answer .badLength s

end Sys2Proof.Machine
end

