-- ==== Sys2Proof/Machine/Supervision.lean ====
section
/-! DEFINITION. Supervision, Recovery and Override (spec 05): heartbeats and their expiries, recovery,
the service button, override, and the requests SLOT_KICK and SLOT_RECOVERY_CLEAR. -/

namespace Sys2Proof.Machine

/-! ### Heartbeat supervision -/

/-- A heartbeat reloads the timer with the interval as it stands and clears the mark (R100). -/
def Slot.beaten (x : Slot) : Slot :=
  { x with heartbeat := some (x.config.supervisionInterval * 100), expiredOnce := false }

/-- A rise of HBEAT: a heartbeat when the slot is RUNNING and its heartbeat timer runs (R100). -/
def heartbeatRises (i : SlotId) (s : State) : State :=
  let x := s.slot i
  match x.state, x.heartbeat with
  | .running, some _ => s.setSlot i x.beaten
  | _, _ => s

/-- The first expiry: the supervision entry, the mark, the reload (R102). -/
def firstExpiry (i : SlotId) (s : State) : State :=
  let latched := occur (supervisionEntry i) none s
  let x := latched.slot i
  latched.setSlot i { x.beaten with expiredOnce := true }

/-- Recovery (R103): the slot is cut into QUEUED with its fallback image selected. -/
def recover (i : SlotId) (s : State) : State :=
  let x := s.slot i
  enqueue i .recovery
    (s.setSlot i { x with fallback := true, recoveryCount := min 15 (x.recoveryCount + 1) })

/-- The heartbeat timer runs out (R102, R103, R104). -/
def heartbeatRunsOut (i : SlotId) (s : State) : State :=
  let x := s.slot i
  match x.state, x.heartbeat with
  | .running, some _ =>
    if x.expiredOnce = false then firstExpiry i s
    else if x.fallback then enter i .faulted .supervisionFault none s
    else recover i s
  | _, _ => s

/-! ### The service button -/

/-- What a press does to the slot (R108). -/
def pressActs (i : SlotId) (s : State) : State :=
  match s.lifeOf i with
  | .off =>
    if s.claimable i then
      let unlisted := unlist i s
      let cleared := unlisted.setSlot i { unlisted.slot i with override := false }
      enqueue i .button cleared
    else s
  | .asleep => unlist i (wake i .button s)
  | .queued | .powering | .releasing | .running | .resetting | .sleepWait | .entering | .waking
  | .stopping | .faulted => s

/-- The button hold timer starts with the override time (R109). -/
def startHold (i : SlotId) (s : State) : State :=
  s.setSlot i { s.slot i with buttonHold := some ((s.slot i).config.overrideTime * 1000) }

/-- A press: the button entry, the slot by its state, the hold timer (R108, R109). -/
def buttonPressed (i : SlotId) (s : State) : State :=
  startHold i (pressActs i (occur (buttonEntry i) none s))

/-- The button hold timer stops (R109). -/
def stopHold (i : SlotId) (s : State) : State :=
  s.setSlot i { s.slot i with buttonHold := none }

/-- An override (R110): OFF with cause OVERRIDE from any other state, and the flag set. -/
def overrideSlot (i : SlotId) (s : State) : State :=
  enter i .off .override none (s.setSlot i { s.slot i with override := true })

/-- The button hold timer runs out (R109): a slot not in OFF is overridden. -/
def holdRunsOut (i : SlotId) (s : State) : State :=
  match (s.slot i).buttonHold with
  | none => s
  | some _ =>
    let stopped := stopHold i s
    if stopped.lifeOf i = .off then stopped else overrideSlot i stopped

/-! ### Requests -/

/-- SLOT_KICK (R101). -/
def slotKick (args : List Byte) (s : State) : Answered :=
  onSlot args s fun i s =>
    let x := s.slot i
    if x.state = .running then
      if x.config.supervisionInterval = 0 then answer .done s
      else answer .done (s.setSlot i x.beaten)
    else answer .wrongState s

/-- SLOT_RECOVERY_CLEAR (R107); ALL is true. -/
def slotRecoveryClear (args : List Byte) (s : State) : Answered :=
  onSlotWith scopeField args s fun i all s =>
    let x := s.slot i
    answer .done (s.setSlot i { x with
      fallback := false
      recoveryCount := if all then 0 else x.recoveryCount })

end Sys2Proof.Machine
end

