-- ==== Sys2Proof/Machine/TimeBase.lean ====
section
/-! DEFINITION. Time Base, Timers and Posted Events (spec 07): the general timers, posted events, and
the requests TIMER_START, TIMER_STOP, TIMER_READ and EVENT_POST. -/

namespace Sys2Proof.Machine

/-- A timer stopped: mode and interval are kept (R136, R139, R142). -/
def GeneralTimer.halted (t : GeneralTimer) : GeneralTimer :=
  { t with state := .stopped, remaining := 0 }

/-- A timer after an expiry (R138). -/
def GeneralTimer.expired (t : GeneralTimer) : GeneralTimer :=
  match t.mode with
  | .once => t.halted
  | .repeats => { t with remaining := t.interval }

/-- A running timer expires (R138). -/
def timerRunsOut (t : TimerId) (s : State) : State :=
  match (s.timer t).state with
  | .running =>
    let latched := occur (timerEntry t) none s
    latched.setTimer t (latched.timer t).expired
  | .stopped => s

/-- Warm restart stops every timer (R142). -/
def haltTimers (s : State) : State :=
  { s with timers := Vector.ofFn fun t => s.timers[t].halted }

/-- TIMER_START (R137). -/
def timerStart (args : List Byte) (s : State) : Answered :=
  match args with
  | [b1, b2, hi, lo] =>
    match fourField b1, timerModeField b2 with
    | some t, some mode =>
      let interval := halfOf hi lo
      if interval = 0 then answer .badValue s
      else
        answer .done (s.setTimer t
          { state := .running, mode := mode, interval := interval, remaining := interval })
    | _, _ => answer .badValue s
  | _ => answer .badLength s

/-- TIMER_STOP (R139). -/
def timerStop (args : List Byte) (s : State) : Answered :=
  match args with
  | [b1] =>
    match fourField b1 with
    | some t =>
      match (s.timer t).state with
      | .running => answer .done (s.setTimer t (s.timer t).halted)
      | .stopped => answer .done s
    | none => answer .badValue s
  | _ => answer .badLength s

/-- One timer of TIMER_READ (section 10.5.7). -/
def GeneralTimer.bytes (t : GeneralTimer) : List Byte :=
  [t.state.code, t.mode.code] ++ halfBytes t.interval ++
    halfBytes (match t.state with
      | .running => t.remaining
      | .stopped => 0)

/-- TIMER_READ (R140). -/
def timerRead (args : List Byte) (s : State) : Answered :=
  match args with
  | [] =>
    answerWith .done
      (wordBytes s.uptime ++ (List.finRange 4).flatMap fun t => (s.timer t).bytes) s
  | _ => answer .badLength s

/-- EVENT_POST (R141). -/
def eventPost (args : List Byte) (s : State) : Answered :=
  match args with
  | [b1, hi, lo] =>
    match fourField b1 with
    | some p => answer .done (occur (postedEntry p) (some (halfOf hi lo)) s)
    | none => answer .badValue s
  | _ => answer .badLength s

end Sys2Proof.Machine
end

