-- ==== Sys2Proof/Machine/Session.lean ====
section
/-! DEFINITION. Sessions and Restarts (spec 09): cold start, the hold by RESET_N, warm restart, and the
requests HELLO, STATUS and RESTART. -/

namespace Sys2Proof.Machine

/-! ### Cold start (R158) -/

/-- The cold start of the part at its present pins. -/
def coldStart (reason : RestartReason) (s : State) : State :=
  State.coldStarted reason s.straps s.board s.lines s.link.rxd s.pending s.choices

/-- Standby power arrives (R158): a cold start with reason POWER, at once or, with RESET_N asserted, at
its release. -/
def powerArrives (s : State) : State :=
  match s.phase with
  | .unpowered true => { s with phase := .held .power }
  | .held _ => { s with phase := .held .power }
  | .unpowered false | .running => coldStart .power s

/-- RESET_N is asserted (R158): the part is held; requests and frames in flight are lost and TXD rests.
What else stood in the blocks stays as it was until the cold start (log 11). -/
def resetAsserted (s : State) : State :=
  match s.phase with
  | .unpowered _ => { s with phase := .unpowered true }
  | .held reason => { s with phase := .held reason }
  | .running =>
    { s with
      phase := .held .pin
      link := { s.link with receiver := .hunt, gapTimer := none, queue := [], replyWaiting := none,
                            tx := .idle } }

/-- RESET_N is released (R158). -/
def resetReleased (s : State) : State :=
  match s.phase with
  | .unpowered _ => { s with phase := .unpowered false }
  | .held reason => coldStart reason s
  | .running => s

/-! ### Warm restart (R165) -/

/-- The Control Link's part (R156). -/
def Link.restarted (l : Link) : Link :=
  { l with receiver := .hunt, gapTimer := none, queue := [], cache := none, greeted := false,
           restartPending := false, replyWaiting := none }

/-- Both channels are closed and their lists rebuilt (R49, R50). -/
def restartChannels (s : State) : State :=
  { s with
    priority := s.priority.restarted (s.rebuiltList .priority)
    routine := s.routine.restarted (s.rebuiltList .routine) }

/-- The restart record at a warm restart (R160). -/
def Session.restarted (x : Session) (now : Word) : Session :=
  { x with reason := .request, restartTime := now }

/-- The warm restart of the whole part (R165). The rebuild follows the clear of the Session-class
entries (R50); a waiting sleep whose holds are gone is released at the finish of the step (R75, R81; log 26). -/
def warmRestart (s : State) : State :=
  let cleared := clearSession (s.setLink s.link.restarted)
  let rebuilt := restartChannels cleared
  let discarded := haltTimers (discardHostHolds rebuilt)
  { discarded with session := discarded.session.restarted discarded.uptime }

/-! ### Requests -/

/-- HELLO (R162): the reply tells the greeted flag as it was before. -/
def hello (args : List Byte) (s : State) : Answered :=
  match args with
  | [] =>
    answerWith .done
      (halfBytes Config.partCode ++
        [Config.revision, boolByte s.link.greeted, s.session.reason.code] ++
        wordBytes s.session.restartTime ++
        [s.session.linkRate.setWidth 8, boolByte s.session.autostart] ++ wordBytes s.uptime)
      (s.setLink { s.link with greeted := true })
  | _ => answer .badLength s

/-- A channel block of STATUS (section 10.5.2). -/
def Channel.block (ch : Channel) : List Byte :=
  [ch.state.code, natByte ch.itemLimit, natByte ch.retries, natByte ch.serviceLimit, ch.number,
   natByte ch.pending.length, natByte ch.inFlight.length, natByte (leftIn 100 ch.serviceTimer)] ++
  halfBytes ch.stallCount ++ halfBytes ch.overrunCount ++ halfBytes ch.offersSent

/-- The number of latched entries (R163). -/
def State.latchedCount (s : State) : Nat :=
  ((List.finRange 60).filter fun e => (s.entry e).latched).length

/-- The values of STATUS (R163, section 10.5.2). -/
def State.statusReport (s : State) : List Byte :=
  wordBytes s.uptime ++ [s.session.reason.code] ++ wordBytes s.session.restartTime ++
  s.priority.block ++ s.routine.block ++
  halfBytes s.link.discardCount ++ halfBytes s.link.duplicateCount ++
  [natByte s.latchedCount, boolByte s.railGood, boolByte s.hot, natByte s.staging.shedLevel] ++
  (List.finRange 6).flatMap fun i => [(s.lifeOf i).code, boolByte (s.isPresent i)]

/-- STATUS (R163). -/
def status (args : List Byte) (s : State) : Answered :=
  match args with
  | [] => answerWith .done s.statusReport s
  | _ => answer .badLength s

/-- RESTART (R164): the restart follows the reply (R156). -/
def restart (args : List Byte) (s : State) : Answered :=
  match args with
  | [] => answer .done (s.setLink { s.link with restartPending := true })
  | _ => answer .badLength s

end Sys2Proof.Machine
end

