-- ==== Sys2Proof/Machine/Link.lean ====
section
/-! DEFINITION. The Control Link (spec 08): the check value, the receiver, the request queue and
dispatch, the reply cache, the transmit arbiter, break and link reset; and the one way every command is
concluded. -/

namespace Sys2Proof.Machine

/-! ### Frames (R144, R145) -/

/-- One bit of the check register's advance: generator x^16 + x^12 + x^5 + 1, most significant bit
first (R145). -/
def crcBit (crc : Half) : Half :=
  if crc.getLsbD 15 then (crc <<< 1) ^^^ 0x1021 else crc <<< 1

/-- One byte taken into the check register (R145). -/
def crcByte (crc : Half) (b : Byte) : Half :=
  let mixed := crc ^^^ (b.setWidth 16 <<< 8)
  crcBit (crcBit (crcBit (crcBit (crcBit (crcBit (crcBit (crcBit mixed)))))))

/-- The check value of a run of bytes: the register starts at FFFFh, with no final inversion (R145). -/
def crc (bytes : List Byte) : Half := bytes.foldl crcByte 0xFFFF

/-- The check value of a frame, over LEN, SEQ, KIND and the payload (R144, R145). -/
def Frame.check (f : Frame) : Half := crc (natByte f.payload.length :: f.seq :: f.kind :: f.payload)

/-- A frame as it stands on a line (R144). -/
def Frame.wire (f : Frame) : List Byte :=
  0xC3 :: natByte f.payload.length :: f.seq :: f.kind :: f.payload ++ halfBytes f.check

/-! ### The reasons of a discard (R149) -/

/-- The discard reasons. -/
inductive DiscardReason where
  | badCheck | badLength | gap | badKind | queueFull
deriving DecidableEq, Repr

/-- The reason codes. -/
def DiscardReason.code : DiscardReason → Byte
  | .badCheck => 1
  | .badLength => 2
  | .gap => 3
  | .badKind => 4
  | .queueFull => 5

/-- The receiver back in HUNT with its gap timer stopped. -/
def Link.hunting (l : Link) : Link := { l with receiver := .hunt, gapTimer := none }

/-- A discard of a frame by the receiver (R149). -/
def discard (reason : DiscardReason) (s : State) : State :=
  occur linkFaultEntry (some (halfOf 0 reason.code))
    (s.setLink { s.link.hunting with discardCount := satInc s.link.discardCount })

/-! ### The receiver (R146 to R148) -/

/-- A good request frame meets the queue (R148, steps 3 and 4). -/
def queueRequest (r : Request) (s : State) : State :=
  if Config.requestQueueSize ≤ s.link.queue.length then discard .queueFull s
  else s.setLink { s.link.hunting with queue := s.link.queue ++ [r] }

/-- A complete frame is judged by check, kind and room (R148). -/
def judge (f : Frame) (check : Half) (s : State) : State :=
  if f.check ≠ check then discard .badCheck s
  else if f.kind ≠ 0x01 then discard .badKind s
  else queueRequest { seq := f.seq, payload := f.payload } s

/-- The receiver goes on inside a frame: the gap timer starts or restarts (R147). -/
def receiving (r : Receiver) (s : State) : State :=
  s.setLink { s.link with receiver := r, gapTimer := some Config.frameGap }

/-- The receiver takes a byte (R146). -/
def takeByte (b : Byte) (s : State) : State :=
  match s.link.receiver with
  | .hunt => if b = 0xC3 then receiving .headerLen s else s
  | .headerLen =>
    if Config.maxPayload < b.toNat then discard .badLength s else receiving (.headerSeq b) s
  | .headerSeq len => receiving (.headerKind len b) s
  | .headerKind len seq =>
    receiving (if len = 0 then .checkHigh seq b [] else .body len seq b []) s
  | .body len seq kind taken =>
    let now := taken ++ [b]
    receiving
      (if now.length = len.toNat then .checkHigh seq kind now else .body len seq kind now) s
  | .checkHigh seq kind payload => receiving (.checkLow seq kind payload b) s
  | .checkLow seq kind payload high =>
    judge { seq := seq, kind := kind, payload := payload } (halfOf high b) s

/-- A whole frame reaches its second check byte (R148). A frame longer than its LEN byte may say is
discarded at that byte (R146), and no frame is received inside a break (R154). While RXD stands low with no
break recognised yet the frame is taken, and pin and break timer stay as they are (DESIGN CHOICE, log 30). -/
def frameArrives (f : Frame) (check : Half) (s : State) : State :=
  if s.link.inBreak then s
  else if Config.maxPayload < f.payload.length then discard .badLength s
  else judge f check s

/-- A byte arrives on RXD; in a break the receiver takes none (R154). While RXD stands low with no break
recognised yet the byte is taken, and pin and break timer stay as they are (DESIGN CHOICE, log 30). -/
def byteArrives (b : Byte) (s : State) : State := if s.link.inBreak then s else takeByte b s

/-- A LEN byte above 120 arrives (R146). The row acts in every receiver state; a frame in reception is lost
with it (DESIGN CHOICE, log 18). It acts while RXD stands low with no break recognised yet, too, and pin and
break timer stay as they are (DESIGN CHOICE, log 30). -/
def lenTooLong (s : State) : State := if s.link.inBreak then s else discard .badLength s

/-- The gap timer runs out inside a frame (R147). -/
def gapRunsOut (s : State) : State :=
  match s.link.gapTimer with
  | some _ => discard .gap s
  | none => s

/-! ### Dispatch (R150 to R152) -/

/-- The owner of a request carries it out (R151 step 5, section 10.2). -/
def carryOut (c : ReqCode) (args : List Byte) (s : State) : Answered :=
  match c with
  | .hello => hello args s
  | .status => status args s
  | .restart => restart args s
  | .eventConfig => eventConfig args s
  | .eventRead => eventRead args s
  | .eventList => eventList args s
  | .eventClear => eventClear args s
  | .eventPost => eventPost args s
  | .inputConfig => inputConfig args s
  | .inputRead => inputRead args s
  | .channelOpen => channelOpen args s
  | .channelClose => channelClose args s
  | .accept => acceptNotice args s
  | .settle => settleRequest args s
  | .slotConfig => slotConfig args s
  | .slotRead => slotRead args s
  | .slotOn => slotOn args s
  | .slotStop => slotStop args s
  | .slotCut => slotCut args s
  | .slotSleep => slotSleep args s
  | .slotWake => slotWake args s
  | .slotReset => slotReset args s
  | .slotVerdict => slotVerdict args s
  | .slotHold => slotHold args s
  | .slotUnhold => slotUnhold args s
  | .slotKick => slotKick args s
  | .slotFaultClear => slotFaultClear args s
  | .slotRecoveryClear => slotRecoveryClear args s
  | .stageConfig => stageConfig args s
  | .stageRead => stageRead args s
  | .shedConfig => shedConfig args s
  | .timerStart => timerStart args s
  | .timerStop => timerStop args s
  | .timerRead => timerRead args s

/-- The tests of dispatch behind the duplicate test: code, length, greeted, owner (R151, steps 2 to 5;
R161, R167, R168). -/
def perform (payload : List Byte) (s : State) : Answered :=
  match requestOf payload with
  | none => answer .badCode s
  | some c =>
    if payload.length ≠ c.length then answer .badLength s
    else if s.link.greeted = false ∧ c ≠ .hello then answer .wrongState s
    else carryOut c payload.tail s

/-- A reply frame (R144). -/
def replyFrame (seq : Byte) (payload : List Byte) : Frame := { seq, kind := 0x02, payload }

/-- A request that is executed (R151): carried out whole with all it brings about, its reply waiting at
the arbiter and in the cache. -/
def execute (r : Request) (s : State) : State :=
  let done := perform r.payload s
  let after := finish done.state
  after.setLink { after.link with
    replyWaiting := some (replyFrame r.seq done.reply)
    cache := some { seq := r.seq, payload := done.reply } }

/-- A request answered from the cache (R152). -/
def replay (c : CachedReply) (s : State) : State :=
  s.setLink { s.link with
    replyWaiting := some (replyFrame c.seq c.payload)
    duplicateCount := satInc s.link.duplicateCount }

/-- A request taken from the queue is dispatched, the duplicate test first (R151, R152). -/
def dispatch (r : Request) (s : State) : State :=
  match s.link.cache with
  | some c => if c.seq = r.seq then replay c s else execute r s
  | none => execute r s

/-! ### The transmit arbiter (R153) -/

/-- A channel's sending begins on TXD. -/
def beginNotice (c : ChannelId) (s : State) : State :=
  let ch := s.channel c
  let begun := s.setChannel c { ch with sendWaiting := false }
  begun.setLink { begun.link with tx := .notice c (ch.noticeFrame c) }

/-- With TXD idle the arbiter begins the first of reply, Priority sending, Routine sending (R153). -/
def arbitrate (s : State) : State :=
  match s.link.tx with
  | .idle =>
    match s.link.replyWaiting with
    | some f => s.setLink { s.link with tx := .reply f, replyWaiting := none }
    | none =>
      if s.priority.sendWaiting then beginNotice .priority s
      else if s.routine.sendWaiting then beginNotice .routine s
      else s
  | .reply _ | .notice _ _ => s

/-- The request the Control Link takes at this moment (R150): the head of the queue, when no reply waits
and the restart-pending mark is clear. -/
def State.takeable (s : State) : Option Request :=
  if s.link.replyWaiting = none ∧ s.link.restartPending = false then s.link.queue.head? else none

/-- The arbiter and the dispatch take turns until nothing more can begin or be taken (R150, R153). Each
round takes a request, so the size of the queue bounds the rounds. -/
def pump : Nat → State → State
  | 0, s => arbitrate s
  | n + 1, s =>
    let begun := arbitrate s
    match begun.takeable with
    | some r => pump n (dispatch r (begun.setLink { begun.link with queue := begun.link.queue.tail }))
    | none => begun

/-! ### Break, link reset, end of a frame -/

/-- A break is recognised (R154). -/
def breakRecognised (s : State) : State :=
  s.setLink { s.link with rxd := false, breakTimer := none, inBreak := true }

/-- The Control Link's part of a link reset (R155, steps 1 to 4), RXD having risen. -/
def Link.broken (l : Link) : Link :=
  { l.hunting with rxd := true, breakTimer := none, inBreak := false, queue := [],
                   replyWaiting := none, cache := none }

/-- The link reset at the end of a break (R155). When it drops the RESTART reply before it has begun,
the warm restart follows (R156). -/
def resetLink (s : State) : State :=
  let reset : State :=
    { s with link := s.link.broken, priority := s.priority.linkReset,
             routine := s.routine.linkReset }
  if s.link.restartPending && s.link.replyWaiting.isSome then warmRestart reset else reset

/-- The last byte of the frame on TXD has been sent (R153): a notice's channel is told (R34), and behind
the RESTART reply the warm restart is carried out before the arbiter chooses (R156). With TXD idle it is
without effect (DESIGN CHOICE, log 29). -/
def frameSent (s : State) : State :=
  match s.link.tx with
  | .idle => s
  | .reply _ =>
    let freed := s.setLink { s.link with tx := .idle }
    if s.link.restartPending && s.link.replyWaiting.isNone then warmRestart freed else freed
  | .notice c _ =>
    let freed := s.setLink { s.link with tx := .idle }
    freed.setChannel c (freed.channel c).sent

/-- RXD takes a level (R154): a fall starts the break timer, a rise stops it and ends a recognised
break. -/
def rxdChanges (level : Bool) (s : State) : State :=
  if level = s.link.rxd then s
  else if level = false then
    s.setLink { s.link with rxd := false, breakTimer := some Config.breakTime }
  else if s.link.inBreak then resetLink s
  else s.setLink { s.link with rxd := true, breakTimer := none }

/-! ### The conclusion of a command -/

/-- What a command does to a running part: its own effect, the finish of the step, and the link's
turn. -/
def conclude (f : State → State) (s : State) : State :=
  pump Config.requestQueueSize (finish (f s))

/-- A command at the part: it acts while the part runs; otherwise no line, character or timer is taken
(R158). -/
def run (f : State → State) (s : State) : Host.Outcome State Fault Refusal :=
  .next (if s.phase = .running then conclude f s else s)

/-- A host request: its frame arrives whole and good, and is taken as soon as R150 allows (log 1). -/
def hostRequest (seq : Byte) (payload : List Byte) (s : State) : Host.Outcome State Fault Refusal :=
  let f : Frame := { seq := seq, kind := 0x01, payload := payload }
  run (frameArrives f f.check) s

end Sys2Proof.Machine
end

