-- ==== Sys2Proof/Machine/Expiries.lean ====
section
/-! DEFINITION. The meanings of the commands that name the end of a running time. Each acts when its
timer runs, however much of it is left, and is without effect otherwise (log 2). -/

namespace Sys2Proof.Machine

/-! ### Slot steps (spec 03, 04) -/

/-- POWERUP_LIMIT_EXPIRY (R61). -/
def execPowerupLimitExpiry (slot : SlotId) (s : State) : Host.Outcome State Fault Refusal :=
  run (powerUpRunsOut slot) s

/-- RESET_HOLD_END (R63). -/
def execResetHoldEnd (slot : SlotId) (s : State) : Host.Outcome State Fault Refusal :=
  run (resetHoldRunsOut slot) s

/-- RESETTING_END (R65). -/
def execResettingEnd (slot : SlotId) (s : State) : Host.Outcome State Fault Refusal :=
  run (resettingRunsOut slot) s

/-- STOP_LIMIT_EXPIRY (R66). -/
def execStopLimitExpiry (slot : SlotId) (s : State) : Host.Outcome State Fault Refusal :=
  run (stopRunsOut slot) s

/-- SLEEP_ENTRY_LIMIT_EXPIRY (R86). -/
def execSleepEntryLimitExpiry (slot : SlotId) (s : State) : Host.Outcome State Fault Refusal :=
  run (sleepEntryRunsOut slot) s

/-- WAKING_POWERUP_LIMIT_EXPIRY (R89). -/
def execWakingPowerupLimitExpiry (slot : SlotId) (s : State) : Host.Outcome State Fault Refusal :=
  run (wakingPowerUpRunsOut slot) s

/-- WAKE_LIMIT_EXPIRY (R89). -/
def execWakeLimitExpiry (slot : SlotId) (s : State) : Host.Outcome State Fault Refusal :=
  run (wakeRunsOut slot) s

/-- HOLD_WAIT_EXPIRY (R84). -/
def execHoldWaitExpiry (slot : SlotId) (s : State) : Host.Outcome State Fault Refusal :=
  run (holdWaitRunsOut slot) s

/-- VERDICT_EXPIRY (R83). -/
def execVerdictExpiry (slot : SlotId) (s : State) : Host.Outcome State Fault Refusal :=
  run (verdictRunsOut slot) s

/-- IDLE_EXPIRY (R96). -/
def execIdleExpiry (slot : SlotId) (s : State) : Host.Outcome State Fault Refusal :=
  run (idleRunsOut slot) s

/-- HEARTBEAT_EXPIRY (R102, R103, R104). -/
def execHeartbeatExpiry (slot : SlotId) (s : State) : Host.Outcome State Fault Refusal :=
  run (heartbeatRunsOut slot) s

/-- BUTTON_HOLD_EXPIRY (R109). -/
def execButtonHoldExpiry (slot : SlotId) (s : State) : Host.Outcome State Fault Refusal :=
  run (holdRunsOut slot) s

/-! ### The Staging Unit (spec 06) -/

/-- STAGGER_EXPIRY (R116). -/
def execStaggerExpiry (s : State) : Host.Outcome State Fault Refusal :=
  run staggerRunsOut s

/-- OFF_TIME_ELAPSED (R117). -/
def execOffTimeElapsed (s : State) : Host.Outcome State Fault Refusal :=
  run headOffTimeElapses s

/-- SETTLE_EXPIRY (R120). -/
def execSettleExpiry (s : State) : Host.Outcome State Fault Refusal :=
  run settleRunsOut s

/-- ESCALATION_EXPIRY (R127). -/
def execEscalationExpiry (s : State) : Host.Outcome State Fault Refusal :=
  run escalationRunsOut s

/-- COOL_EXPIRY (R128). -/
def execCoolExpiry (s : State) : Host.Outcome State Fault Refusal :=
  run coolRunsOut s

/-! ### Timers and channels (spec 07, 02) -/

/-- TIMER_EXPIRY (R138). -/
def execTimerExpiry (timer : TimerId) (s : State) : Host.Outcome State Fault Refusal :=
  run (timerRunsOut timer) s

/-- OFFER_TIMEOUT (R35, R36). -/
def execOfferTimeout (channel : ChannelId) (s : State) : Host.Outcome State Fault Refusal :=
  run (offerRunsOut channel) s

/-- SERVICE_EXPIRY (R40). -/
def execServiceExpiry (channel : ChannelId) (s : State) : Host.Outcome State Fault Refusal :=
  run (serviceRunsOut channel) s

end Sys2Proof.Machine
end

