-- ==== Sys2Proof/Machine/Lines.lean ====
section
/-! DEFINITION. Line conditioning (spec 01, section 1.3): the line behind a pin, what a conditioned edge
does at the block that takes it, and what a raw pin change does to the conditioning. -/

namespace Sys2Proof.Machine

/-! ### The line behind a pin -/

/-- The conditioned line a pin feeds (R5); RXD and the straps pass no conditioning. -/
def State.pinLine (s : State) (p : Pin) : Option Line :=
  match p with
  | .gei n => some (s.geiLine n)
  | .mainGood => some s.board.mainGood
  | .therm => some s.board.therm
  | .wake i => some (s.lineSet i).wake
  | .alert i => some (s.lineSet i).alert
  | .slpReq i => some (s.lineSet i).slpReq
  | .btn i => some (s.lineSet i).btn
  | .present i => some (s.lineSet i).present
  | .hbeat i => some (s.lineSet i).hbeat
  | .act i => some (s.lineSet i).act
  | .rdy i => some (s.lineSet i).rdy
  | .pgood i => some (s.lineSet i).pgood
  | .rxd | .lrate1 | .lrate0 | .autostart => none

/-- Write the conditioned line a pin feeds. -/
def State.setPinLine (s : State) (p : Pin) (x : Line) : State :=
  match p with
  | .gei n => s.setGeiLine n x
  | .mainGood => s.setBoard { s.board with mainGood := x }
  | .therm => s.setBoard { s.board with therm := x }
  | .wake i => s.setLineSet i { s.lineSet i with wake := x }
  | .alert i => s.setLineSet i { s.lineSet i with alert := x }
  | .slpReq i => s.setLineSet i { s.lineSet i with slpReq := x }
  | .btn i => s.setLineSet i { s.lineSet i with btn := x }
  | .present i => s.setLineSet i { s.lineSet i with present := x }
  | .hbeat i => s.setLineSet i { s.lineSet i with hbeat := x }
  | .act i => s.setLineSet i { s.lineSet i with act := x }
  | .rdy i => s.setLineSet i { s.lineSet i with rdy := x }
  | .pgood i => s.setLineSet i { s.lineSet i with pgood := x }
  | .rxd | .lrate1 | .lrate0 | .autostart => s

/-- How long a level must persist at a pin before it is taken (R5): the debounce time, or the qualifying
time of the one direction that is qualified; 0 takes it at once. -/
def State.qualifyTime (s : State) (p : Pin) (level : Bool) : Nat :=
  match p with
  | .gei n => s.board.geiDebounce[n]
  | .mainGood | .pgood _ => if level then 0 else Config.releaseQualify
  | .therm => Config.thermDebounce
  | .wake _ | .alert _ | .slpReq _ | .btn _ | .present _ => Config.slotDebounce
  | .hbeat _ | .act _ | .rdy _ | .rxd | .lrate1 | .lrate0 | .autostart => 0

/-! ### Conditioned edges -/

/-- A rise of a WAKE line: the direct wake of its own slot and the edge at its entry (R91; log 17). -/
def wakeLineRises (i : SlotId) (s : State) : State :=
  edgeAt (wakeEntry i) true (wake i .wakeLine s)

/-- What a conditioned edge to `level` does at the block that takes it (R5). -/
def deliver (p : Pin) (level : Bool) (s : State) : State :=
  match p, level with
  | .gei n, l => edgeAt (geiEntry n) l s
  | .mainGood, true => mainGoodRises s
  | .mainGood, false => mainGoodFalls s
  | .therm, true => thermRises s
  | .therm, false => thermFalls s
  | .wake i, true => wakeLineRises i s
  | .wake i, false => edgeAt (wakeEntry i) false s
  | .alert i, l => edgeAt (alertEntry i) l s
  | .slpReq i, true => sleepLineRises i s
  | .slpReq _, false => s
  | .btn i, true => buttonPressed i s
  | .btn i, false => stopHold i s
  | .present i, true => moduleInserted i s
  | .present i, false => moduleRemoved i s
  | .hbeat i, true => heartbeatRises i s
  | .hbeat _, false => s
  | .act i, true => activity i s
  | .act _, false => s
  | .rdy i, true => rdyRises i s
  | .rdy i, false => rdyFalls i s
  | .pgood i, true => pgoodRises i s
  | .pgood i, false => pgoodFalls i s
  | .rxd, _ | .lrate1, _ | .lrate0, _ | .autostart, _ => s

/-- A line whose pin and conditioned level stand at one level, with no period running. -/
def Line.settled (level : Bool) : Line := { pin := level, level := level, period := none }

/-- The conditioned level of a pin's line becomes `level`, and its edge is delivered (R4). -/
def edge (p : Pin) (level : Bool) (s : State) : State :=
  deliver p level (s.setPinLine p (Line.settled level))

/-- A command that names a conditioned edge of a line: the edge happens when the line stands at the other
level (log 3). -/
def lineTakes (p : Pin) (level : Bool) (s : State) : State :=
  if (s.pinLine p).map Line.level = some level then s.setPinLine p (Line.settled level)
  else edge p level s

/-! ### Raw pin changes (R4, R5) -/

/-- A pin of a conditioned line takes a level: at the conditioned level a running period is abandoned;
at the other level a period starts, runs on, or is of length 0 and taken at once. -/
def conditionPin (p : Pin) (level : Bool) (l : Line) (s : State) : State :=
  if level = l.level then s.setPinLine p { l with pin := level, period := none }
  else if l.period.isSome then s.setPinLine p { l with pin := level }
  else if s.qualifyTime p level = 0 then edge p level s
  else s.setPinLine p { l with pin := level, period := some (s.qualifyTime p level) }

/-- The strap pin of a strap takes a level; the samples stay (R159). -/
def Straps.withPin (x : Straps) (p : Pin) (level : Bool) : Straps :=
  match p with
  | .lrate1 => { x with lrate1 := level }
  | .lrate0 => { x with lrate0 := level }
  | .autostart => { x with autostart := level }
  | _ => x

/-- A raw pin change at a running part. -/
def pinChanges (p : Pin) (level : Bool) (s : State) : State :=
  match s.pinLine p with
  | some l => conditionPin p level l s
  | none =>
    if p = .rxd then rxdChanges level s else { s with straps := s.straps.withPin p level }

/-- A raw pin change at a part that does not run: the pin has its level, and no more (log 11). -/
def pinRecorded (p : Pin) (level : Bool) (s : State) : State :=
  match s.pinLine p with
  | some l => s.setPinLine p { l with pin := level }
  | none =>
    if p = .rxd then s.setLink { s.link with rxd := level }
    else { s with straps := s.straps.withPin p level }

end Sys2Proof.Machine
end

