-- ==== Sys2Proof/Machine/LineEvents.lean ====
section
/-! DEFINITION. The meanings of the commands that come in on lines: raw pin changes, conditioned edges,
standby power and RESET_N. -/

namespace Sys2Proof.Machine

/-! ### Power and reset (R158) -/

/-- STANDBY_POWER_ON (R158); at a powered part power has gone and come again (log 10). -/
def execStandbyPowerOn (s : State) : Host.Outcome State Fault Refusal :=
  .next (powerArrives s)

/-- RESET_N_ASSERT (R158). -/
def execResetNAssert (s : State) : Host.Outcome State Fault Refusal :=
  .next (resetAsserted s)

/-- RESET_N_RELEASE (R158). -/
def execResetNRelease (s : State) : Host.Outcome State Fault Refusal :=
  .next (resetReleased s)

/-! ### Raw pins (R4) -/

/-- PIN_LEVEL_CHANGE (R4, R5, R154). -/
def execPinLevelChange (pin : Pin) (level : Bool) (s : State) : Host.Outcome State Fault Refusal :=
  .next (if s.phase = .running then conclude (pinChanges pin level) s else pinRecorded pin level s)

/-! ### Conditioned edges (R5) -/

/-- GEI_EDGE (R7). -/
def execGeiEdge (line : GeiLine) (level : Bool) (s : State) : Host.Outcome State Fault Refusal :=
  run (lineTakes (.gei line) level) s

/-- ALERT_EDGE (R7). -/
def execAlertEdge (slot : SlotId) (level : Bool) (s : State) : Host.Outcome State Fault Refusal :=
  run (lineTakes (.alert slot) level) s

/-- WAKE_LINE_RISE (R91). -/
def execWakeLineRise (slot : SlotId) (s : State) : Host.Outcome State Fault Refusal :=
  run (lineTakes (.wake slot) true) s

/-- WAKE_LINE_FALL (R7). -/
def execWakeLineFall (slot : SlotId) (s : State) : Host.Outcome State Fault Refusal :=
  run (lineTakes (.wake slot) false) s

/-- SLPREQ_RISE (R78): always an edge, since no row names a fall (log 3). -/
def execSlpreqRise (slot : SlotId) (s : State) : Host.Outcome State Fault Refusal :=
  run (edge (.slpReq slot) true) s

/-- BUTTON_PRESS (R108). -/
def execButtonPress (slot : SlotId) (s : State) : Host.Outcome State Fault Refusal :=
  run (lineTakes (.btn slot) true) s

/-- BUTTON_RELEASE (R109). -/
def execButtonRelease (slot : SlotId) (s : State) : Host.Outcome State Fault Refusal :=
  run (lineTakes (.btn slot) false) s

/-- INSERTION (R71). -/
def execInsertion (slot : SlotId) (s : State) : Host.Outcome State Fault Refusal :=
  run (lineTakes (.present slot) true) s

/-- REMOVAL (R70). -/
def execRemoval (slot : SlotId) (s : State) : Host.Outcome State Fault Refusal :=
  run (lineTakes (.present slot) false) s

/-- HBEAT_RISE (R100): always an edge (log 3). -/
def execHbeatRise (slot : SlotId) (s : State) : Host.Outcome State Fault Refusal :=
  run (edge (.hbeat slot) true) s

/-- ACT_RISE (R96): always an edge (log 3). -/
def execActRise (slot : SlotId) (s : State) : Host.Outcome State Fault Refusal :=
  run (edge (.act slot) true) s

/-- RDY_ASSERT (R66, R86). -/
def execRdyAssert (slot : SlotId) (s : State) : Host.Outcome State Fault Refusal :=
  run (lineTakes (.rdy slot) true) s

/-- RDY_RELEASE (R89). -/
def execRdyRelease (slot : SlotId) (s : State) : Host.Outcome State Fault Refusal :=
  run (lineTakes (.rdy slot) false) s

/-- PGOOD_ASSERT (R61, R89). -/
def execPgoodAssert (slot : SlotId) (s : State) : Host.Outcome State Fault Refusal :=
  run (lineTakes (.pgood slot) true) s

/-- PG_LOST (R68). -/
def execPgLost (slot : SlotId) (s : State) : Host.Outcome State Fault Refusal :=
  run (lineTakes (.pgood slot) false) s

/-- MAINGOOD_ASSERT (R120). -/
def execMaingoodAssert (s : State) : Host.Outcome State Fault Refusal :=
  run (lineTakes .mainGood true) s

/-- MAINGOOD_RELEASE (R119, R120). -/
def execMaingoodRelease (s : State) : Host.Outcome State Fault Refusal :=
  run (lineTakes .mainGood false) s

/-- THERM_ASSERT (R126). -/
def execThermAssert (s : State) : Host.Outcome State Fault Refusal :=
  run (lineTakes .therm true) s

/-- THERM_RELEASE (R127). -/
def execThermRelease (s : State) : Host.Outcome State Fault Refusal :=
  run (lineTakes .therm false) s

end Sys2Proof.Machine
end

