-- ==== Sys2Proof/Machine/LinkEvents.lean ====
section
/-! DEFINITION. The meanings of the commands of the serial link: bytes, whole frames, gaps, breaks and the
end of a frame on TXD. -/

namespace Sys2Proof.Machine

/-- RX_FRAME (R148). -/
def execRxFrame (seq kind : Byte) (payload : List Byte) (check : Half) (s : State) :
    Host.Outcome State Fault Refusal :=
  run (frameArrives { seq := seq, kind := kind, payload := payload } check) s

/-- RX_LEN_TOO_LONG (R146; log 18). -/
def execRxLenTooLong (s : State) : Host.Outcome State Fault Refusal :=
  run lenTooLong s

/-- RX_BYTE (R146). -/
def execRxByte (byte : Byte) (s : State) : Host.Outcome State Fault Refusal :=
  run (byteArrives byte) s

/-- GAP_TIMEOUT (R147). -/
def execGapTimeout (s : State) : Host.Outcome State Fault Refusal :=
  run gapRunsOut s

/-- BREAK_DETECT (R154). -/
def execBreakDetect (s : State) : Host.Outcome State Fault Refusal :=
  run breakRecognised s

/-- LINK_RESET (R155). -/
def execLinkReset (s : State) : Host.Outcome State Fault Refusal :=
  run resetLink s

/-- TX_FRAME_END (R153). -/
def execTxFrameEnd (s : State) : Host.Outcome State Fault Refusal :=
  run frameSent s

end Sys2Proof.Machine
end

