-- ==== Sys2Proof/Machine/Requests.lean ====
section
/-! DEFINITION. The meanings of the host requests: each is a request frame that arrives whole and good
(log 1), is queued (R148), taken and dispatched (R150 to R152), and carried out by its owner
(`Machine.carryOut`) by the rule named. -/

namespace Sys2Proof.Machine

/-- The payload of a request: its code and the bytes behind it (R144). -/
def requestPayload (c : ReqCode) (args : List Byte) : List Byte := c.byte :: args

/-- HELLO (R162). -/
def execHello (seq : Byte) (args : List Byte) (s : State) : Host.Outcome State Fault Refusal :=
  hostRequest seq (requestPayload .hello args) s

/-- STATUS (R163). -/
def execStatus (seq : Byte) (args : List Byte) (s : State) : Host.Outcome State Fault Refusal :=
  hostRequest seq (requestPayload .status args) s

/-- RESTART (R164). -/
def execRestart (seq : Byte) (args : List Byte) (s : State) : Host.Outcome State Fault Refusal :=
  hostRequest seq (requestPayload .restart args) s

/-- EVENT_CONFIG (R19). -/
def execEventConfig (seq : Byte) (args : List Byte) (s : State) : Host.Outcome State Fault Refusal :=
  hostRequest seq (requestPayload .eventConfig args) s

/-- EVENT_READ (R18). -/
def execEventRead (seq : Byte) (args : List Byte) (s : State) : Host.Outcome State Fault Refusal :=
  hostRequest seq (requestPayload .eventRead args) s

/-- EVENT_LIST (R20). -/
def execEventList (seq : Byte) (args : List Byte) (s : State) : Host.Outcome State Fault Refusal :=
  hostRequest seq (requestPayload .eventList args) s

/-- EVENT_CLEAR (R22). -/
def execEventClear (seq : Byte) (args : List Byte) (s : State) : Host.Outcome State Fault Refusal :=
  hostRequest seq (requestPayload .eventClear args) s

/-- EVENT_POST (R141). -/
def execEventPost (seq : Byte) (args : List Byte) (s : State) : Host.Outcome State Fault Refusal :=
  hostRequest seq (requestPayload .eventPost args) s

/-- INPUT_CONFIG (R21). -/
def execInputConfig (seq : Byte) (args : List Byte) (s : State) : Host.Outcome State Fault Refusal :=
  hostRequest seq (requestPayload .inputConfig args) s

/-- INPUT_READ (R23). -/
def execInputRead (seq : Byte) (args : List Byte) (s : State) : Host.Outcome State Fault Refusal :=
  hostRequest seq (requestPayload .inputRead args) s

/-- CHANNEL_OPEN (R42). -/
def execChannelOpen (seq : Byte) (args : List Byte) (s : State) : Host.Outcome State Fault Refusal :=
  hostRequest seq (requestPayload .channelOpen args) s

/-- CHANNEL_CLOSE (R43). -/
def execChannelClose (seq : Byte) (args : List Byte) (s : State) : Host.Outcome State Fault Refusal :=
  hostRequest seq (requestPayload .channelClose args) s

/-- ACCEPT (R38). -/
def execAccept (seq : Byte) (args : List Byte) (s : State) : Host.Outcome State Fault Refusal :=
  hostRequest seq (requestPayload .accept args) s

/-- SETTLE (R39). -/
def execSettle (seq : Byte) (args : List Byte) (s : State) : Host.Outcome State Fault Refusal :=
  hostRequest seq (requestPayload .settle args) s

/-- SLOT_CONFIG (R58). -/
def execSlotConfig (seq : Byte) (args : List Byte) (s : State) : Host.Outcome State Fault Refusal :=
  hostRequest seq (requestPayload .slotConfig args) s

/-- SLOT_READ (R57). -/
def execSlotRead (seq : Byte) (args : List Byte) (s : State) : Host.Outcome State Fault Refusal :=
  hostRequest seq (requestPayload .slotRead args) s

/-- SLOT_ON (R62). -/
def execSlotOn (seq : Byte) (args : List Byte) (s : State) : Host.Outcome State Fault Refusal :=
  hostRequest seq (requestPayload .slotOn args) s

/-- SLOT_STOP (R66). -/
def execSlotStop (seq : Byte) (args : List Byte) (s : State) : Host.Outcome State Fault Refusal :=
  hostRequest seq (requestPayload .slotStop args) s

/-- SLOT_CUT (R67). -/
def execSlotCut (seq : Byte) (args : List Byte) (s : State) : Host.Outcome State Fault Refusal :=
  hostRequest seq (requestPayload .slotCut args) s

/-- SLOT_RESET (R65). -/
def execSlotReset (seq : Byte) (args : List Byte) (s : State) : Host.Outcome State Fault Refusal :=
  hostRequest seq (requestPayload .slotReset args) s

/-- SLOT_FAULT_CLEAR (R69). -/
def execSlotFaultClear (seq : Byte) (args : List Byte) (s : State) : Host.Outcome State Fault Refusal :=
  hostRequest seq (requestPayload .slotFaultClear args) s

/-- SLOT_SLEEP (R94). -/
def execSlotSleep (seq : Byte) (args : List Byte) (s : State) : Host.Outcome State Fault Refusal :=
  hostRequest seq (requestPayload .slotSleep args) s

/-- SLOT_WAKE (R95). -/
def execSlotWake (seq : Byte) (args : List Byte) (s : State) : Host.Outcome State Fault Refusal :=
  hostRequest seq (requestPayload .slotWake args) s

/-- SLOT_VERDICT (R82). -/
def execSlotVerdict (seq : Byte) (args : List Byte) (s : State) : Host.Outcome State Fault Refusal :=
  hostRequest seq (requestPayload .slotVerdict args) s

/-- SLOT_HOLD (R80). -/
def execSlotHold (seq : Byte) (args : List Byte) (s : State) : Host.Outcome State Fault Refusal :=
  hostRequest seq (requestPayload .slotHold args) s

/-- SLOT_UNHOLD (R80). -/
def execSlotUnhold (seq : Byte) (args : List Byte) (s : State) : Host.Outcome State Fault Refusal :=
  hostRequest seq (requestPayload .slotUnhold args) s

/-- SLOT_KICK (R101). -/
def execSlotKick (seq : Byte) (args : List Byte) (s : State) : Host.Outcome State Fault Refusal :=
  hostRequest seq (requestPayload .slotKick args) s

/-- SLOT_RECOVERY_CLEAR (R107). -/
def execSlotRecoveryClear (seq : Byte) (args : List Byte) (s : State) : Host.Outcome State Fault Refusal :=
  hostRequest seq (requestPayload .slotRecoveryClear args) s

/-- STAGE_CONFIG (R130). -/
def execStageConfig (seq : Byte) (args : List Byte) (s : State) : Host.Outcome State Fault Refusal :=
  hostRequest seq (requestPayload .stageConfig args) s

/-- STAGE_READ (R132). -/
def execStageRead (seq : Byte) (args : List Byte) (s : State) : Host.Outcome State Fault Refusal :=
  hostRequest seq (requestPayload .stageRead args) s

/-- SHED_CONFIG (R131). -/
def execShedConfig (seq : Byte) (args : List Byte) (s : State) : Host.Outcome State Fault Refusal :=
  hostRequest seq (requestPayload .shedConfig args) s

/-- TIMER_START (R137). -/
def execTimerStart (seq : Byte) (args : List Byte) (s : State) : Host.Outcome State Fault Refusal :=
  hostRequest seq (requestPayload .timerStart args) s

/-- TIMER_STOP (R139). -/
def execTimerStop (seq : Byte) (args : List Byte) (s : State) : Host.Outcome State Fault Refusal :=
  hostRequest seq (requestPayload .timerStop args) s

/-- TIMER_READ (R140). -/
def execTimerRead (seq : Byte) (args : List Byte) (s : State) : Host.Outcome State Fault Refusal :=
  hostRequest seq (requestPayload .timerRead args) s

/-- BAD_CODE_REQUEST (R167): the payload as it stands; dispatch looks at its code (log 25). -/
def execBadCodeRequest (seq : Byte) (payload : List Byte) (s : State) :
    Host.Outcome State Fault Refusal :=
  hostRequest seq payload s

end Sys2Proof.Machine
end

