-- ==== Sys2Proof/Machine/Dispatch.lean ====
section
/-! DEFINITION. Every command has its meaning: one arm per constructor of Instr. -/

namespace Sys2Proof.Machine

/-- The meaning of a command: its effect on everything but the queue of waiting commands. -/
def exec (i : Instr) (s : State) : Host.Outcome State Fault Refusal :=
  match i with
  | .hello seq args => Sys2Proof.Machine.execHello seq args s
  | .badCodeRequest seq payload => Sys2Proof.Machine.execBadCodeRequest seq payload s
  | .status seq args => Sys2Proof.Machine.execStatus seq args s
  | .restart seq args => Sys2Proof.Machine.execRestart seq args s
  | .eventConfig seq args => Sys2Proof.Machine.execEventConfig seq args s
  | .eventRead seq args => Sys2Proof.Machine.execEventRead seq args s
  | .eventList seq args => Sys2Proof.Machine.execEventList seq args s
  | .eventClear seq args => Sys2Proof.Machine.execEventClear seq args s
  | .eventPost seq args => Sys2Proof.Machine.execEventPost seq args s
  | .inputConfig seq args => Sys2Proof.Machine.execInputConfig seq args s
  | .inputRead seq args => Sys2Proof.Machine.execInputRead seq args s
  | .channelOpen seq args => Sys2Proof.Machine.execChannelOpen seq args s
  | .channelClose seq args => Sys2Proof.Machine.execChannelClose seq args s
  | .accept seq args => Sys2Proof.Machine.execAccept seq args s
  | .settle seq args => Sys2Proof.Machine.execSettle seq args s
  | .slotConfig seq args => Sys2Proof.Machine.execSlotConfig seq args s
  | .slotRead seq args => Sys2Proof.Machine.execSlotRead seq args s
  | .slotOn seq args => Sys2Proof.Machine.execSlotOn seq args s
  | .slotStop seq args => Sys2Proof.Machine.execSlotStop seq args s
  | .slotCut seq args => Sys2Proof.Machine.execSlotCut seq args s
  | .slotReset seq args => Sys2Proof.Machine.execSlotReset seq args s
  | .slotFaultClear seq args => Sys2Proof.Machine.execSlotFaultClear seq args s
  | .slotSleep seq args => Sys2Proof.Machine.execSlotSleep seq args s
  | .slotWake seq args => Sys2Proof.Machine.execSlotWake seq args s
  | .slotVerdict seq args => Sys2Proof.Machine.execSlotVerdict seq args s
  | .slotHold seq args => Sys2Proof.Machine.execSlotHold seq args s
  | .slotUnhold seq args => Sys2Proof.Machine.execSlotUnhold seq args s
  | .slotKick seq args => Sys2Proof.Machine.execSlotKick seq args s
  | .slotRecoveryClear seq args => Sys2Proof.Machine.execSlotRecoveryClear seq args s
  | .stageConfig seq args => Sys2Proof.Machine.execStageConfig seq args s
  | .stageRead seq args => Sys2Proof.Machine.execStageRead seq args s
  | .shedConfig seq args => Sys2Proof.Machine.execShedConfig seq args s
  | .timerStart seq args => Sys2Proof.Machine.execTimerStart seq args s
  | .timerStop seq args => Sys2Proof.Machine.execTimerStop seq args s
  | .timerRead seq args => Sys2Proof.Machine.execTimerRead seq args s
  | .standbyPowerOn => Sys2Proof.Machine.execStandbyPowerOn s
  | .resetNAssert => Sys2Proof.Machine.execResetNAssert s
  | .resetNRelease => Sys2Proof.Machine.execResetNRelease s
  | .pinLevelChange pin level => Sys2Proof.Machine.execPinLevelChange pin level s
  | .geiEdge line level => Sys2Proof.Machine.execGeiEdge line level s
  | .alertEdge slot level => Sys2Proof.Machine.execAlertEdge slot level s
  | .wakeLineRise slot => Sys2Proof.Machine.execWakeLineRise slot s
  | .slpreqRise slot => Sys2Proof.Machine.execSlpreqRise slot s
  | .buttonPress slot => Sys2Proof.Machine.execButtonPress slot s
  | .buttonRelease slot => Sys2Proof.Machine.execButtonRelease slot s
  | .buttonHoldExpiry slot => Sys2Proof.Machine.execButtonHoldExpiry slot s
  | .removal slot => Sys2Proof.Machine.execRemoval slot s
  | .insertion slot => Sys2Proof.Machine.execInsertion slot s
  | .hbeatRise slot => Sys2Proof.Machine.execHbeatRise slot s
  | .actRise slot => Sys2Proof.Machine.execActRise slot s
  | .pgoodAssert slot => Sys2Proof.Machine.execPgoodAssert slot s
  | .pgLost slot => Sys2Proof.Machine.execPgLost slot s
  | .rdyAssert slot => Sys2Proof.Machine.execRdyAssert slot s
  | .rdyRelease slot => Sys2Proof.Machine.execRdyRelease slot s
  | .powerupLimitExpiry slot => Sys2Proof.Machine.execPowerupLimitExpiry slot s
  | .resetHoldEnd slot => Sys2Proof.Machine.execResetHoldEnd slot s
  | .resettingEnd slot => Sys2Proof.Machine.execResettingEnd slot s
  | .stopLimitExpiry slot => Sys2Proof.Machine.execStopLimitExpiry slot s
  | .sleepEntryLimitExpiry slot => Sys2Proof.Machine.execSleepEntryLimitExpiry slot s
  | .wakingPowerupLimitExpiry slot => Sys2Proof.Machine.execWakingPowerupLimitExpiry slot s
  | .wakeLimitExpiry slot => Sys2Proof.Machine.execWakeLimitExpiry slot s
  | .holdWaitExpiry slot => Sys2Proof.Machine.execHoldWaitExpiry slot s
  | .verdictExpiry slot => Sys2Proof.Machine.execVerdictExpiry slot s
  | .idleExpiry slot => Sys2Proof.Machine.execIdleExpiry slot s
  | .heartbeatExpiry slot => Sys2Proof.Machine.execHeartbeatExpiry slot s
  | .staggerExpiry => Sys2Proof.Machine.execStaggerExpiry s
  | .offTimeElapsed => Sys2Proof.Machine.execOffTimeElapsed s
  | .maingoodAssert => Sys2Proof.Machine.execMaingoodAssert s
  | .maingoodRelease => Sys2Proof.Machine.execMaingoodRelease s
  | .settleExpiry => Sys2Proof.Machine.execSettleExpiry s
  | .thermAssert => Sys2Proof.Machine.execThermAssert s
  | .thermRelease => Sys2Proof.Machine.execThermRelease s
  | .escalationExpiry => Sys2Proof.Machine.execEscalationExpiry s
  | .coolExpiry => Sys2Proof.Machine.execCoolExpiry s
  | .timerExpiry timer => Sys2Proof.Machine.execTimerExpiry timer s
  | .offerTimeout channel => Sys2Proof.Machine.execOfferTimeout channel s
  | .serviceExpiry channel => Sys2Proof.Machine.execServiceExpiry channel s
  | .rxFrame seq kind payload check => Sys2Proof.Machine.execRxFrame seq kind payload check s
  | .rxLenTooLong => Sys2Proof.Machine.execRxLenTooLong s
  | .gapTimeout => Sys2Proof.Machine.execGapTimeout s
  | .breakDetect => Sys2Proof.Machine.execBreakDetect s
  | .linkReset => Sys2Proof.Machine.execLinkReset s
  | .txFrameEnd => Sys2Proof.Machine.execTxFrameEnd s
  | .wakeLineFall slot => Sys2Proof.Machine.execWakeLineFall slot s
  | .rxByte byte => Sys2Proof.Machine.execRxByte byte s

end Sys2Proof.Machine
end

