-- ==== Sys2Proof/Machine/Clock.lean ====
section
/-! DEFINITION. The time base (R135): one millisecond passes for every timer of the part (log 4), and what
has run out is carried out as the command that names it, one after the other in a free order (log 5). -/

namespace Sys2Proof.Machine

/-! ### One count of the time base -/

/-- A timer that holds the ms left, one count on; a stopped timer stays stopped. -/
def countDown (t : Option Nat) : Option Nat := t.map fun n => n - 1

/-- A line's running period, one count on. -/
def Line.counted (l : Line) : Line := { l with period := countDown l.period }

/-- The board lines, one count on. -/
def BoardLines.counted (b : BoardLines) : BoardLines :=
  { b with
    gei := Vector.ofFn fun i => b.gei[i].counted
    mainGood := b.mainGood.counted
    therm := b.therm.counted }

/-- The end of the debounce of a fall of SLPREQ, which no block takes (R78) and no command names. -/
def Line.fallen (l : Line) : Line :=
  if l.period = some 0 ∧ l.pin = false then Line.settled false else l

/-- The lines of one slot, one count on. -/
def SlotLines.counted (l : SlotLines) : SlotLines :=
  { l with
    wake := l.wake.counted
    alert := l.alert.counted
    slpReq := l.slpReq.counted.fallen
    btn := l.btn.counted
    present := l.present.counted
    pgood := l.pgood.counted }

/-- The timers of one slot, one count on; the off timer counts up and stops at its maximum (log 16). -/
def Slot.counted (x : Slot) : Slot :=
  { x with
    step := x.step.map fun t => { t with left := t.left - 1 }
    offTimer := min (x.offTimer + 1) (2 ^ 32 - 1)
    verdictTimer := countDown x.verdictTimer
    idleTimer := countDown x.idleTimer
    heartbeat := countDown x.heartbeat
    buttonHold := countDown x.buttonHold }

/-- The Staging Unit's timers, one count on. -/
def Staging.counted (u : Staging) : Staging :=
  { u with
    staggerTimer := countDown u.staggerTimer
    settleTimer := countDown u.settleTimer
    escalationTimer := countDown u.escalationTimer
    coolTimer := countDown u.coolTimer }

/-- A general timer, one count on (R136). -/
def GeneralTimer.counted (t : GeneralTimer) : GeneralTimer :=
  match t.state with
  | .running => { t with remaining := if t.remaining = 0 then 0 else t.remaining - 1 }
  | .stopped => t

/-- A running offer timer, one count on. -/
def OfferTimer.counted (t : OfferTimer) : OfferTimer :=
  match t with
  | .running left => .running (left - 1)
  | .stopped => .stopped
  | .waiting => .waiting

/-- A channel's timers, one count on. -/
def Channel.counted (ch : Channel) : Channel :=
  { ch with offerTimer := ch.offerTimer.counted, serviceTimer := countDown ch.serviceTimer }

/-- The Control Link's timers, one count on. -/
def Link.counted (l : Link) : Link :=
  { l with gapTimer := countDown l.gapTimer, breakTimer := countDown l.breakTimer }

/-- One millisecond passes: the uptime counts and wraps (R135), and every timer counts with it. -/
def State.counted (s : State) : State :=
  { s with
    uptime := s.uptime + 1
    board := s.board.counted
    lines := Vector.ofFn fun i => s.lines[i].counted
    slots := Vector.ofFn fun i => s.slots[i].counted
    staging := s.staging.counted
    timers := Vector.ofFn fun t => s.timers[t].counted
    priority := s.priority.counted
    routine := s.routine.counted
    link := s.link.counted }

/-! ### What has run out -/

/-- A command, when a condition holds. -/
def dueIf (b : Bool) (i : Instr) : List Instr := if b then [i] else []

/-- A period has run out. -/
def Line.ripe (l : Line) : Bool := l.period == some 0

/-- The command that names the end of a slot's running step. -/
def stepCommand (i : SlotId) (state : LifeState) (kind : StepKind) : Instr :=
  match kind with
  | .powerUp => if state = .waking then .wakingPowerupLimitExpiry i else .powerupLimitExpiry i
  | .resetHold => if state = .resetting then .resettingEnd i else .resetHoldEnd i
  | .sleepEntry => .sleepEntryLimitExpiry i
  | .wake => .wakeLimitExpiry i
  | .stop => .stopLimitExpiry i
  | .holdWait => .holdWaitExpiry i

/-- The end of a slot's step, when it has run out. -/
def Slot.dueStep (x : Slot) (i : SlotId) : List Instr :=
  match x.step with
  | some t => dueIf (t.left == 0) (stepCommand i x.state t.kind)
  | none => []

/-- What has run out at one slot. -/
def State.dueAtSlot (s : State) (i : SlotId) : List Instr :=
  let l := s.lineSet i
  let x := s.slot i
  dueIf l.wake.ripe (if l.wake.pin then .wakeLineRise i else .wakeLineFall i) ++
  dueIf l.alert.ripe (.alertEdge i l.alert.pin) ++
  dueIf l.slpReq.ripe (.slpreqRise i) ++
  dueIf l.btn.ripe (if l.btn.pin then .buttonPress i else .buttonRelease i) ++
  dueIf l.present.ripe (if l.present.pin then .insertion i else .removal i) ++
  dueIf l.pgood.ripe (.pgLost i) ++
  x.dueStep i ++
  dueIf (x.verdictTimer == some 0) (.verdictExpiry i) ++
  dueIf (x.idleTimer == some 0) (.idleExpiry i) ++
  dueIf (x.heartbeat == some 0) (.heartbeatExpiry i) ++
  dueIf (x.buttonHold == some 0) (.buttonHoldExpiry i)

/-- What has run out at one channel. -/
def State.dueAtChannel (s : State) (c : ChannelId) : List Instr :=
  dueIf ((s.channel c).offerTimer == .running 0) (.offerTimeout c) ++
  dueIf ((s.channel c).serviceTimer == some 0) (.serviceExpiry c)

/-- What has run out at one general timer. -/
def State.dueAtTimer (s : State) (t : TimerId) : List Instr :=
  dueIf ((s.timer t).state == .running && (s.timer t).remaining == 0) (.timerExpiry t)

/-- What has run out at the board and the Staging Unit, and the head of the start queue that has become
free to go (R115). -/
def State.dueAtBoard (s : State) : List Instr :=
  ((List.finRange 12).flatMap fun n =>
    dueIf (s.geiLine n).ripe (.geiEdge n (s.geiLine n).pin)) ++
  dueIf s.board.mainGood.ripe .maingoodRelease ++
  dueIf s.board.therm.ripe (if s.board.therm.pin then .thermAssert else .thermRelease) ++
  dueIf (s.staging.staggerTimer == some 0) .staggerExpiry ++
  dueIf s.releasable.isSome .offTimeElapsed ++
  dueIf (s.staging.settleTimer == some 0) .settleExpiry ++
  dueIf (s.staging.escalationTimer == some 0) .escalationExpiry ++
  dueIf (s.staging.coolTimer == some 0) .coolExpiry

/-- What has run out on the link. -/
def State.dueOnLink (s : State) : List Instr :=
  dueIf (s.link.gapTimer == some 0) .gapTimeout ++
  dueIf (s.link.breakTimer == some 0) .breakDetect

/-- Everything that has run out and has not been carried out, as commands. -/
def State.due (s : State) : List Instr :=
  s.dueAtBoard ++ (List.finRange 6).flatMap s.dueAtSlot ++ (List.finRange 4).flatMap s.dueAtTimer ++
    s.dueAtChannel .priority ++ s.dueAtChannel .routine ++ s.dueOnLink

/-! ### A millisecond -/

/-- A choice is drawn: which of `n` events that come together is taken next (log 5). One event alone
needs no choice. -/
def State.drawn (s : State) (n : Nat) : Nat × State :=
  if n ≤ 1 then (0, s) else (Config.freeChoice s.choices % n, { s with choices := s.choices + 1 })

/-- Carry out what has run out, one event at a time, until nothing is due. -/
def carryOutDue : Nat → State → Host.Outcome State Fault Refusal
  | 0, s => .next s
  | n + 1, s =>
    match (s.due)[(s.drawn s.due.length).1]? with
    | none => .next s
    | some c =>
      match exec c (s.drawn s.due.length).2 with
      | .next s' => carryOutDue n s'
      | .fault r => .fault r
      | .refused r => .refused r

/-- One millisecond of a running part; a part that does not run has no time base (R158). -/
def tick (s : State) : Host.Outcome State Fault Refusal :=
  if s.phase = .running then carryOutDue Config.drainFuel s.counted else .next s

end Sys2Proof.Machine
end

