-- ==== Sys2Proof/Safety.lean ====
section
/-! DEFINITION. The words in which claims about the part are stated: when a command is taken at once, what
follows on its own effect, and the invariants of the part. -/

namespace Sys2Proof.Machine

/-! ### What follows on a command's own effect -/

/-- What a step of a running part makes of its own effect: the finish of the step (R81, R115, R129,
R171), and then the arbiter's and the dispatch's turns on the link (R150, R153). -/
def State.concluded (u : State) : State := pump Config.requestQueueSize (finish u)

/-- What the manual lets follow at once on a step's own effect: the finish of the step (R81, R115, R129,
R171), and the arbiter's turn at an idle TXD (R153). -/
def State.followed (u : State) : State := arbitrate (finish u)

/-- A request has been answered: its reply is in the cache (R151), and on an idle TXD at once, or waiting
for the end of the frame that is on TXD (R153). -/
def State.replied (u : State) (seq : Byte) (reply : List Byte) : State :=
  let frame := replyFrame seq reply
  let cached : Link := { u.link with cache := some { seq := seq, payload := reply } }
  u.setLink (if u.link.tx = TxLine.idle then { cached with tx := .reply frame }
    else { cached with replyWaiting := some frame })

/-- A request's own effect `u` with what follows on it, and its reply. -/
def State.answered (u : State) (seq : Byte) (reply : List Byte) : State := (finish u).replied seq reply

/-! ### When a command is taken -/

/-- No business is left over from an earlier step. -/
abbrev State.calm (s : State) : Prop :=
  s.wakes = [] ∧ s.staging.restore ≠ .between ∧ s.sleepers = [] ∧ s.releasable = none

/-- The part runs, no request can be taken from the queue, and no reply waits at an idle TXD. -/
abbrev State.attending (s : State) : Prop :=
  s.phase = .running ∧ s.takeable = none ∧ (s.link.tx = .idle → s.link.replyWaiting = none)

/-- The link is free for a request: nothing is being received, no request and no reply waits, and a notice
waits only behind a frame on TXD, be that a notice or a reply that has begun (R150, R153). RXD may stand low
while no break is recognised (log 30). -/
abbrev State.linkFree (s : State) : Prop :=
  s.link.receiver = .hunt ∧ s.link.gapTimer = none ∧ s.link.inBreak = false ∧ s.link.queue = [] ∧
    s.link.replyWaiting = none ∧ s.link.restartPending = false ∧
    (s.link.tx = .idle → s.priority.sendWaiting = false ∧ s.routine.sendWaiting = false)

/-- The SEQ is not that of the last executed request (R152). -/
abbrev State.freshSeq (s : State) (seq : Byte) : Prop := s.link.cache.map CachedReply.seq ≠ some seq

/-- A request with this SEQ is taken and executed as soon as it arrives (R150, R151). -/
abbrev State.listening (s : State) (seq : Byte) : Prop :=
  s.phase = .running ∧ s.calm ∧ s.linkFree ∧ s.freshSeq seq

/-- A listening part that has been greeted (R161). -/
abbrev State.ready (s : State) (seq : Byte) : Prop := s.listening seq ∧ s.link.greeted = true

/-! ### Requests -/

/-- The command that carries a request of the table. -/
def requestCommand (c : ReqCode) (seq : Byte) (args : List Byte) : Instr :=
  match c with
  | .hello => .hello seq args
  | .status => .status seq args
  | .restart => .restart seq args
  | .eventConfig => .eventConfig seq args
  | .eventRead => .eventRead seq args
  | .eventList => .eventList seq args
  | .eventClear => .eventClear seq args
  | .eventPost => .eventPost seq args
  | .inputConfig => .inputConfig seq args
  | .inputRead => .inputRead seq args
  | .channelOpen => .channelOpen seq args
  | .channelClose => .channelClose seq args
  | .accept => .accept seq args
  | .settle => .settle seq args
  | .slotConfig => .slotConfig seq args
  | .slotRead => .slotRead seq args
  | .slotOn => .slotOn seq args
  | .slotStop => .slotStop seq args
  | .slotCut => .slotCut seq args
  | .slotSleep => .slotSleep seq args
  | .slotWake => .slotWake seq args
  | .slotReset => .slotReset seq args
  | .slotVerdict => .slotVerdict seq args
  | .slotHold => .slotHold seq args
  | .slotUnhold => .slotUnhold seq args
  | .slotKick => .slotKick seq args
  | .slotFaultClear => .slotFaultClear seq args
  | .slotRecoveryClear => .slotRecoveryClear seq args
  | .stageConfig => .stageConfig seq args
  | .stageRead => .stageRead seq args
  | .shedConfig => .shedConfig seq args
  | .timerStart => .timerStart seq args
  | .timerStop => .timerStop seq args
  | .timerRead => .timerRead seq args

/-- A row of bytes arrives on RXD, one after the other. -/
def State.fed (s : State) (bytes : List Byte) : Host.Outcome State Fault Refusal :=
  match bytes with
  | [] => .next s
  | b :: rest =>
    match exec (.rxByte b) s with
    | .next t => t.fed rest
    | .fault r => .fault r
    | .refused r => .refused r

/-- Every value of a slot's configuration lies in the range of R58. -/
abbrev SlotConfig.inRange (c : SlotConfig) : Prop :=
  (1 ≤ c.powerUpLimit ∧ c.powerUpLimit ≤ 255) ∧ (1 ≤ c.resetHold ∧ c.resetHold ≤ 255) ∧
    (1 ≤ c.sleepEntryLimit ∧ c.sleepEntryLimit ≤ 255) ∧ (1 ≤ c.wakeLimit ∧ c.wakeLimit ≤ 255) ∧
    (1 ≤ c.stopLimit ∧ c.stopLimit ≤ 255) ∧ (1 ≤ c.offTime ∧ c.offTime ≤ 255) ∧
    (1 ≤ c.verdictLimit ∧ c.verdictLimit ≤ 255) ∧ c.holdWaitLimit ≤ 255 ∧
    (1 ≤ c.idleLimit ∧ c.idleLimit ≤ 4095) ∧ c.supervisionInterval ≤ 255 ∧
    (1 ≤ c.overrideTime ∧ c.overrideTime ≤ 15) ∧ c.shedRank ≤ 6

/-! ### Conditioned lines -/

/-- The row that names the conditioned edge of a pin's line to a level (R5). None for the falls of SLPREQ,
HBEAT and ACT, which no block takes, and for a pin without a conditioned line. -/
def lineCommand (p : Pin) (level : Bool) : Option Instr :=
  match p, level with
  | .gei n, l => some (.geiEdge n l)
  | .mainGood, true => some .maingoodAssert
  | .mainGood, false => some .maingoodRelease
  | .therm, true => some .thermAssert
  | .therm, false => some .thermRelease
  | .wake i, true => some (.wakeLineRise i)
  | .wake i, false => some (.wakeLineFall i)
  | .alert i, l => some (.alertEdge i l)
  | .slpReq i, true => some (.slpreqRise i)
  | .btn i, true => some (.buttonPress i)
  | .btn i, false => some (.buttonRelease i)
  | .present i, true => some (.insertion i)
  | .present i, false => some (.removal i)
  | .hbeat i, true => some (.hbeatRise i)
  | .act i, true => some (.actRise i)
  | .rdy i, true => some (.rdyAssert i)
  | .rdy i, false => some (.rdyRelease i)
  | .pgood i, true => some (.pgoodAssert i)
  | .pgood i, false => some (.pgLost i)
  | .slpReq _, false | .hbeat _, false | .act _, false => none
  | .rxd, _ | .lrate1, _ | .lrate0, _ | .autostart, _ => none

/-! ### The parts of State that the blocks' operations leave -/

/-- The parts of State outside the Event Table, the channels, the slots and the Staging Unit. -/
structure Outside where
  phase : Phase
  straps : Straps
  board : BoardLines
  lines : Vector SlotLines 6
  uptime : Word
  timers : Vector GeneralTimer 4
  link : Link
  session : Session
  pending : List Instr
  choices : Nat

/-- The parts of a state outside the Event Table, the channels, the slots and the Staging Unit. -/
def State.outside (s : State) : Outside :=
  { phase := s.phase, straps := s.straps, board := s.board, lines := s.lines, uptime := s.uptime,
    timers := s.timers, link := s.link, session := s.session, pending := s.pending,
    choices := s.choices }

/-! ### Invariants -/

/-- The request queue holds at most four requests (R150). -/
abbrev State.queueBounded (s : State) : Prop := s.link.queue.length ≤ Config.requestQueueSize

/-- At most one slot is in POWERING or RELEASING (R115). -/
abbrev State.onePowerUp (s : State) : Prop :=
  ∀ i j : SlotId, (s.lifeOf i).inPowerUp = true → (s.lifeOf j).inPowerUp = true → i = j

/-- A slot is in the start queue exactly when it is QUEUED, and at most once (R114). -/
abbrev State.startQueueAgrees (s : State) : Prop :=
  (s.staging.startQueue.map QueuePlace.slot).Nodup ∧
    ∀ i : SlotId, i ∈ s.staging.startQueue.map QueuePlace.slot ↔ s.lifeOf i = .queued

/-- How many enabled, latched entries hold a slot (R12). -/
def State.entryHolds (s : State) (i : SlotId) : Nat :=
  ((List.finRange 60).filter fun e => (s.entry e).effectiveHold.getLsbD i.val).length

/-- Every slot's hold count is its host holds and its entry holds together (R79). -/
abbrev State.holdsAgree (s : State) : Prop :=
  ∀ i : SlotId, (s.slot i).holds = (s.slot i).hostHolds + s.entryHolds i

/-- A slot whose override flag is set is OFF (R111). -/
abbrev State.overrideHolds (s : State) : Prop :=
  ∀ i : SlotId, (s.slot i).override = true → s.lifeOf i = .off

/-- An entry stands in at most one of the pending lists and in-flight sets (R28), a pending list holds
latched, enabled entries routed to its channel (R28), an item limit is 1 to 12 (R42), an in-flight set is
non-empty exactly while a notice is outstanding, and it never exceeds the item limit (R29). -/
abbrev State.placesAgree (s : State) : Prop :=
  (s.priority.pending ++ s.priority.inFlight ++ s.routine.pending ++ s.routine.inFlight).Nodup ∧
    ∀ c : ChannelId, (∀ e ∈ (s.channel c).pending, s.belongsTo c e = true) ∧
      (1 ≤ (s.channel c).itemLimit ∧ (s.channel c).itemLimit ≤ 12) ∧
      ((s.channel c).inFlight ≠ [] ↔
        (s.channel c).state = .offered ∨ (s.channel c).state = .servicing) ∧
      (s.channel c).inFlight.length ≤ (s.channel c).itemLimit

/-- A slot stands where its shedding has brought it: shed by SLEEP it is in ENTERING with no deferred wake,
or ASLEEP; shed by STOP it is in STOPPING or OFF (R123, R124). -/
abbrev State.shedAsListed (s : State) (p : ShedPlace) : Prop :=
  (p.action = .sleep ∧ (s.lifeOf p.slot = .asleep ∨
      (s.lifeOf p.slot = .entering ∧ (s.slot p.slot).deferredWake = none))) ∨
    (p.action = .stop ∧ (s.lifeOf p.slot = .stopping ∨ s.lifeOf p.slot = .off))

/-- A slot stands at most once in the shed list, a listed slot stands where its shedding has brought it and
so not in the start queue (R123), and while the rail is LOST every slot is OFF or FAULTED and both lists are
empty (R119); the settle timer runs only then (R120), and the wake requests that wait are those of
occurrences, which a listed slot ignores (R11, R93). -/
abbrev State.shedListAgrees (s : State) : Prop :=
  (s.staging.shedList.map ShedPlace.slot).Nodup ∧
    (∀ p ∈ s.staging.shedList, s.shedAsListed p ∧
      p.slot ∉ s.staging.startQueue.map QueuePlace.slot) ∧
    (s.staging.rail = .lost → (∀ i : SlotId, s.lifeOf i = .off ∨ s.lifeOf i = .faulted) ∧
      s.staging.startQueue = [] ∧ s.staging.shedList = []) ∧
    (s.staging.settleTimer.isSome = true → s.staging.rail = .lost) ∧
    (∀ w ∈ s.wakes, w.origin = .wakeEvent)

end Sys2Proof.Machine
end

