-- ==== Sys2Proof/Certificates/Slice0/Obligations.lean ====
section
/-! DEFINITION. The statements for the provers. A command at a running part is stated as the state that
its own effect leads to, `State.concluded`; `WhatFollowsAStep` says what that makes of an effect. A request
is stated at a part that takes it at once, `State.ready`, be TXD idle or sending, as the state its effect leads
to and the reply, `State.answered`. That a byte or a frame is taken on a low RXD, before a break is recognised, is
the model's choice throughout (log 30). -/

open Sys2Proof Sys2Proof.Machine

/-! ### Steps, restarts, invariants -/

/-- The command at the front of the queue is what a step carries out, on the state with the rest. -/
def Obligations.StepRunsTheFrontCommand : Prop :=
  ∀ (c : Instr) (s : State), step { s with pending := c :: s.pending } = exec c s

/-- With no command waiting a step is one millisecond of a running part and nothing at a part that does
not run (log 4); what has run out is carried out in the same step, one thing after the other. Every timer
and period counts down one (R4, R135, R136), a slot's off timer counts up (R53, log 16), nothing else
changes; and for each command, when it is due. -/
def Obligations.AnEmptyQueueIsOneMillisecond : Prop :=
  ∀ s : State, s.pending = [] →
    let u := s.counted
    let down := fun t : Option Nat => t.map fun n => n - 1
    let counted := fun l : Line => { l with period := down l.period }
    (s.phase ≠ .running → step s = .next s) ∧
    (s.phase = .running → u.due = [] → step s = .next u) ∧
    (s.phase = .running → ∀ (c : Instr) (t : State), u.due = [c] →
      exec c u = .next t → t.due = [] → step s = .next t) ∧
    (s.phase = .running → step s = carryOutDue 1000 u) ∧
    (∀ (n : Nat) (v : State), v.due = [] → carryOutDue n v = .next v) ∧
    (∀ (n : Nat) (v : State), v.due ≠ [] → ∃ (c : Instr) (drawn : Nat), c ∈ v.due ∧
      (v.due = [c] → drawn = v.choices) ∧ (drawn = v.choices ∨ drawn = v.choices + 1) ∧
      ∀ t : State, exec c { v with choices := drawn } = .next t →
        carryOutDue (n + 1) v = carryOutDue n t) ∧
    u.uptime = s.uptime + 1 ∧
    (∀ t : TimerId, (s.timer t).state = .running → (s.timer t).remaining ≠ 0 →
      u.timer t = { s.timer t with remaining := (s.timer t).remaining - 1 } ∧
      ((s.timer t).remaining = 1 → Instr.timerExpiry t ∈ u.due)) ∧
    (∀ t : TimerId, (s.timer t).state = .stopped → u.timer t = s.timer t) ∧
    (∀ i : SlotId, u.slot i = { s.slot i with
      step := (s.slot i).step.map fun t => { t with left := t.left - 1 }
      offTimer := if (s.slot i).offTimer < 0xFFFFFFFF then (s.slot i).offTimer + 1 else 0xFFFFFFFF
      verdictTimer := down (s.slot i).verdictTimer
      idleTimer := down (s.slot i).idleTimer
      heartbeat := down (s.slot i).heartbeat
      buttonHold := down (s.slot i).buttonHold }) ∧
    u.staging = { s.staging with
      staggerTimer := down s.staging.staggerTimer
      settleTimer := down s.staging.settleTimer
      escalationTimer := down s.staging.escalationTimer
      coolTimer := down s.staging.coolTimer } ∧
    (∀ c : ChannelId, u.channel c = { s.channel c with
      offerTimer := (match (s.channel c).offerTimer with
        | .running left => .running (left - 1)
        | .waiting => .waiting
        | .stopped => .stopped)
      serviceTimer := down (s.channel c).serviceTimer }) ∧
    u.link = { s.link with gapTimer := down s.link.gapTimer, breakTimer := down s.link.breakTimer } ∧
    (∀ n : GeiLine, u.geiLine n = counted (s.geiLine n)) ∧
    u.board.geiDebounce = s.board.geiDebounce ∧ u.board.mainGood = counted s.board.mainGood ∧
    u.board.therm = counted s.board.therm ∧
    (∀ i : SlotId, u.lineSet i = { s.lineSet i with
      wake := counted (s.lineSet i).wake
      alert := counted (s.lineSet i).alert
      btn := counted (s.lineSet i).btn
      present := counted (s.lineSet i).present
      pgood := counted (s.lineSet i).pgood
      slpReq :=
        if (s.lineSet i).slpReq.pin = false ∧
            ((s.lineSet i).slpReq.period = some 1 ∨ (s.lineSet i).slpReq.period = some 0)
        then { pin := false, level := false, period := none }
        else counted (s.lineSet i).slpReq }) ∧
    u.entries = s.entries ∧ u.wakes = s.wakes ∧ u.session = s.session ∧ u.straps = s.straps ∧
    u.phase = s.phase ∧ u.pending = s.pending ∧ u.choices = s.choices ∧
    (∀ c : Instr, c ∈ u.due ↔
      let ended := fun (l : Line) (pin : Bool) => l.period = some 0 ∧ l.pin = pin
      let runOut := fun (i : SlotId) (kind : StepKind) =>
        (u.slot i).step = some { kind := kind, left := 0 }
      match c with
      | .geiEdge n level => ended (u.geiLine n) level
      | .alertEdge i level => ended (u.lineSet i).alert level
      | .wakeLineRise i => ended (u.lineSet i).wake true
      | .wakeLineFall i => ended (u.lineSet i).wake false
      | .slpreqRise i => (u.lineSet i).slpReq.period = some 0
      | .buttonPress i => ended (u.lineSet i).btn true
      | .buttonRelease i => ended (u.lineSet i).btn false
      | .insertion i => ended (u.lineSet i).present true
      | .removal i => ended (u.lineSet i).present false
      | .pgLost i => (u.lineSet i).pgood.period = some 0
      | .maingoodRelease => u.board.mainGood.period = some 0
      | .thermAssert => ended u.board.therm true
      | .thermRelease => ended u.board.therm false
      | .powerupLimitExpiry i => runOut i .powerUp ∧ u.lifeOf i ≠ .waking
      | .wakingPowerupLimitExpiry i => runOut i .powerUp ∧ u.lifeOf i = .waking
      | .resetHoldEnd i => runOut i .resetHold ∧ u.lifeOf i ≠ .resetting
      | .resettingEnd i => runOut i .resetHold ∧ u.lifeOf i = .resetting
      | .sleepEntryLimitExpiry i => runOut i .sleepEntry
      | .wakeLimitExpiry i => runOut i .wake
      | .stopLimitExpiry i => runOut i .stop
      | .holdWaitExpiry i => runOut i .holdWait
      | .verdictExpiry i => (u.slot i).verdictTimer = some 0
      | .idleExpiry i => (u.slot i).idleTimer = some 0
      | .heartbeatExpiry i => (u.slot i).heartbeat = some 0
      | .buttonHoldExpiry i => (u.slot i).buttonHold = some 0
      | .staggerExpiry => u.staging.staggerTimer = some 0
      | .settleExpiry => u.staging.settleTimer = some 0
      | .escalationExpiry => u.staging.escalationTimer = some 0
      | .coolExpiry => u.staging.coolTimer = some 0
      | .offTimeElapsed => ∃ (p : QueuePlace) (rest : List QueuePlace),
          u.staging.startQueue = p :: rest ∧
            (∀ i : SlotId, u.lifeOf i ≠ .powering ∧ u.lifeOf i ≠ .releasing) ∧
            u.staging.staggerTimer = none ∧ u.staging.rail = .good ∧
            (u.slot p.slot).config.offTime * 100 ≤ (u.slot p.slot).offTimer
      | .timerExpiry t => (u.timer t).state = .running ∧ (u.timer t).remaining = 0
      | .offerTimeout c => (u.channel c).offerTimer = .running 0
      | .serviceExpiry c => (u.channel c).serviceTimer = some 0
      | .gapTimeout => u.link.gapTimer = some 0
      | .breakDetect => u.link.breakTimer = some 0
      | _ => False)

/-- Every command is taken in every state: none stops the part (log 19), and none touches the queue of
waiting commands. -/
def Obligations.EveryCommandIsTaken : Prop :=
  ∀ (c : Instr) (s : State), ∃ t : State, exec c s = .next t ∧ t.pending = s.pending

/-- What a cold start leaves in every block (R24, R48, R73, R98, R112, R133, R142, R157 to R160), with the
first levels of the conditioned lines (R6) and the sampled straps (R143, R159). -/
def Obligations.ColdStartSetsEveryBlock : Prop :=
  ∀ (reason : RestartReason) (straps : Straps) (board : BoardLines) (lines : Vector SlotLines 6)
    (rxd : Bool) (pending : List Instr) (choices : Nat),
    let s := State.coldStarted reason straps board lines rxd pending choices
    let first := fun l : Line => ({ pin := l.pin, level := l.pin, period := none } : Line)
    s.phase = .running ∧ s.uptime = 0 ∧
    (∀ e : EntryId, s.entry e =
      { enabled := false, trigger := if e.val < 24 then .rise else .pulse, route := .none,
        wakeSet := 0, holdSet := 0, latch := none }) ∧
    (∀ c : ChannelId, (s.channel c).state = .closed ∧ (s.channel c).itemLimit = 12 ∧
      (s.channel c).retries = 3 ∧ (s.channel c).serviceLimit = 0 ∧ (s.channel c).pending = [] ∧
      (s.channel c).inFlight = [] ∧ (s.channel c).number = 0 ∧ (s.channel c).retryCount = 0 ∧
      (s.channel c).remaining = 0 ∧ (s.channel c).offerTimer = .stopped ∧
      (s.channel c).serviceTimer = none ∧ (s.channel c).stallCount = 0 ∧
      (s.channel c).overrunCount = 0 ∧ (s.channel c).offersSent = 0) ∧
    (∀ i : SlotId, (s.slot i).state = .off ∧ (s.slot i).last = none ∧ (s.slot i).step = none ∧
      (s.slot i).offTimer = 0 ∧ (s.slot i).stateAtLoss = none ∧ (s.slot i).hostHolds = 0 ∧
      (s.slot i).holds = 0 ∧ (s.slot i).deferredWake = none ∧ (s.slot i).pendingSleep = none ∧
      (s.slot i).verdictTimer = none ∧ (s.slot i).idleTimer = none ∧ (s.slot i).heartbeat = none ∧
      (s.slot i).expiredOnce = false ∧ (s.slot i).fallback = false ∧ (s.slot i).override = false ∧
      (s.slot i).recoveryCount = 0 ∧ (s.slot i).buttonHold = none ∧
      (s.slot i).config =
        { powerUpLimit := 20, resetHold := 20, sleepEntryLimit := 20, wakeLimit := 10,
          stopLimit := 30, offTime := 5, intercept := false, verdictLimit := 10,
          defaultVerdict := .deny, holdWaitLimit := 0, idleAction := .none, idleLimit := 60,
          supervisionInterval := 0, overrideTime := 4,
          resumePolicy :=
            if straps.autostart = true ∧ (lines[i]).present.pin = true then .on else .off,
          wakeFromOff := false, shedRank := 0, shedAction := .sleep }) ∧
    s.staging.startQueue = [] ∧ s.staging.staggerTimer = none ∧ s.staging.staggerGap = 25 ∧
    s.staging.railSettle = 50 ∧ s.staging.rail = .lost ∧ s.staging.firstReturn = true ∧
    s.staging.shedEnable = false ∧ s.staging.escalationInterval = 10 ∧ s.staging.coolTime = 30 ∧
    s.staging.shedLevel = 0 ∧ s.staging.shedList = [] ∧ s.staging.escalationTimer = none ∧
    s.staging.coolTimer = none ∧ s.staging.restore = .clear ∧
    s.staging.settleTimer = (if board.mainGood.pin then some 500 else none) ∧
    (∀ t : TimerId, s.timer t =
      { state := .stopped, mode := .once, interval := 1000, remaining := 0 }) ∧
    s.link.receiver = .hunt ∧ s.link.gapTimer = none ∧ s.link.queue = [] ∧
    s.link.replyWaiting = none ∧ s.link.restartPending = false ∧ s.link.cache = none ∧
    s.link.tx = .idle ∧ s.link.greeted = false ∧ s.link.discardCount = 0 ∧
    s.link.duplicateCount = 0 ∧ s.link.breakTimer = (if rxd then none else some 2) ∧
    s.session.reason = reason ∧ s.session.restartTime = 0 ∧ s.session.autostart = straps.autostart ∧
    s.session.linkRate = (match straps.lrate1, straps.lrate0 with
      | false, false => 0
      | false, true => 1
      | true, false => 2
      | true, true => 3) ∧
    (∀ n : GeiLine, s.geiLine n = first board.gei[n] ∧ s.board.geiDebounce[n] = 0) ∧
    s.board.mainGood = first board.mainGood ∧
    s.board.therm = { pin := board.therm.pin, level := false,
                      period := if board.therm.pin then some 50 else none } ∧
    (∀ i : SlotId, s.lineSet i =
      { wake := first lines[i].wake, alert := first lines[i].alert, slpReq := first lines[i].slpReq,
        btn := first lines[i].btn, present := first lines[i].present, hbeat := first lines[i].hbeat,
        act := first lines[i].act, rdy := first lines[i].rdy, pgood := first lines[i].pgood }) ∧
    (∀ c : ChannelId, (s.channel c).items = [] ∧ (s.channel c).sendWaiting = false) ∧
    s.link.rxd = rxd ∧ s.link.inBreak = false ∧ s.straps = straps ∧ s.wakes = [] ∧
    s.pending = pending ∧ s.choices = choices

/-- Standby power and RESET_N: when the cold start comes and with which reason, and what is lost while
the part is held (R158; logs 10, 11). A strap pin of a running part moves alone: the samples stay until the
next cold start (R159). -/
def Obligations.PowerAndResetStartThePart : Prop :=
  (∀ s : State, s.phase = .running ∨ s.phase = .unpowered false →
    exec .standbyPowerOn s = .next (State.coldStarted .power s.straps s.board s.lines s.link.rxd
      s.pending s.choices)) ∧
  (∀ s : State, s.phase = .unpowered true →
    exec .standbyPowerOn s = .next { s with phase := .held .power }) ∧
  (∀ (s : State) (r : RestartReason), s.phase = .held r →
    exec .standbyPowerOn s = .next { s with phase := .held .power } ∧
    exec .resetNAssert s = .next s ∧
    exec .resetNRelease s = .next (State.coldStarted r s.straps s.board s.lines s.link.rxd
      s.pending s.choices)) ∧
  (∀ s : State, s.phase = .running →
    exec .resetNAssert s = .next { s with
      phase := .held .pin
      link := { s.link with receiver := .hunt, gapTimer := none, queue := [], replyWaiting := none,
                            tx := .idle } } ∧
    exec .resetNRelease s = .next s) ∧
  (∀ (s : State) (b : Bool), s.phase = .unpowered b →
    exec .resetNAssert s = .next { s with phase := .unpowered true } ∧
    exec .resetNRelease s = .next { s with phase := .unpowered false }) ∧
  (∀ (s : State) (l : Bool), s.phase = .running →
    exec (.pinLevelChange .lrate1 l) s =
      .next (State.concluded { s with straps := { s.straps with lrate1 := l } }) ∧
    exec (.pinLevelChange .lrate0 l) s =
      .next (State.concluded { s with straps := { s.straps with lrate0 := l } }) ∧
    exec (.pinLevelChange .autostart l) s =
      .next (State.concluded { s with straps := { s.straps with autostart := l } }))

/-- A part that does not run takes no line, character or timer and no request; its slots' rails are off
and their modules in reset (R158). A pin that changes meanwhile has its level and no more (log 11). -/
def Obligations.HeldPartTakesNothing : Prop :=
  ∀ s : State, s.phase ≠ .running →
    (∀ i : SlotId, s.driven i =
      { railEn := false, railLow := false, mrst := true, slp := false, stp := false,
        bsel := false }) ∧
    (∀ c : Instr, c ≠ .standbyPowerOn → c ≠ .resetNAssert → c ≠ .resetNRelease →
      (∀ p l, c ≠ .pinLevelChange p l) → exec c s = .next s) ∧
    (∀ (p : Pin) (l : Bool) (x : Line), s.pinLine p = some x →
      exec (.pinLevelChange p l) s = .next (s.setPinLine p { x with pin := l })) ∧
    (∀ l : Bool, exec (.pinLevelChange .rxd l) s = .next (s.setLink { s.link with rxd := l })) ∧
    (∀ l : Bool,
      exec (.pinLevelChange .lrate1 l) s =
        .next { s with straps := { s.straps with lrate1 := l } } ∧
      exec (.pinLevelChange .lrate0 l) s =
        .next { s with straps := { s.straps with lrate0 := l } } ∧
      exec (.pinLevelChange .autostart l) s =
        .next { s with straps := { s.straps with autostart := l } })

/-- The invariants hold at reset. -/
def Obligations.ResetMeetsTheInvariants : Prop :=
  State.reset.queueBounded ∧ State.reset.onePowerUp ∧ State.reset.startQueueAgrees ∧
    State.reset.holdsAgree ∧ State.reset.overrideHolds ∧ State.reset.placesAgree ∧
    State.reset.shedListAgrees

/-- No step brings more than four requests into the queue (R150). -/
def Obligations.RequestQueueStaysBounded : Prop :=
  ∀ s t : State, s.queueBounded → step s = .next t → t.queueBounded

/-- No step brings a second slot into POWERING or RELEASING (R115). -/
def Obligations.OnePowerUpAtATime : Prop :=
  ∀ s t : State, s.onePowerUp → step s = .next t → t.onePowerUp

/-- Every step keeps the start queue and the QUEUED slots the same slots, each once (R114); and with them the
shed list: each slot at most once and none in both lists, a listed slot where its shedding has brought it
(R123), and while the rail is LOST every slot OFF or FAULTED and both lists empty (R119). -/
def Obligations.StartQueueHoldsTheQueuedSlots : Prop :=
  (∀ s t : State, s.startQueueAgrees → step s = .next t → t.startQueueAgrees) ∧
  (∀ s t : State, s.startQueueAgrees → s.shedListAgrees → step s = .next t → t.shedListAgrees)

/-- Every step keeps each slot's hold count at its host holds and its entry holds together (R12, R79); those
are the enabled, latched entries whose hold set names the slot. -/
def Obligations.HoldCountsStayExact : Prop :=
  (∀ s t : State, s.holdsAgree → step s = .next t → t.holdsAgree) ∧
  (∀ (s : State) (i : SlotId), s.entryHolds i = ((List.finRange 60).filter fun e =>
    decide ((s.entry e).enabled = true ∧ (s.entry e).latch.isSome = true ∧
      (s.entry e).holdSet.getLsbD i.val = true)).length)

/-- Every step keeps a slot whose override flag is set in OFF (R111), where the start queue holds the
QUEUED slots alone (R114). -/
def Obligations.OverriddenSlotsStayOff : Prop :=
  ∀ s t : State, s.overrideHolds → s.startQueueAgrees → step s = .next t → t.overrideHolds

/-- Every step keeps each entry in at most one pending list or in-flight set, pending lists of latched,
enabled entries routed to their channel (R28), and in-flight sets that are non-empty exactly in OFFERED and
SERVICING and within the item limit (R29), which stays 1 to 12 (R42). -/
def Obligations.ListsHoldTheirEntries : Prop :=
  ∀ s t : State, s.placesAgree → step s = .next t → t.placesAgree

/-! ### What follows on an effect -/

/-- What follows on a step's own effect. Its finish releases every waiting sleep that the step has left with
no verdict awaited and no hold (R81): which ones is fixed before the first release, and the lowest slot's goes
first (log 28). It then works off the business left (`nextBusiness`), one piece after the other: a restore takes
its next slot (R129), and wake requests are taken in the order sent (R171; log 6). At last the head of the start
queue goes when R115 lets it. The link then takes its turn (R150, R153), behind the whole step (log 8). -/
def Obligations.WhatFollowsAStep : Prop :=
  (∀ u : State, u.calm → (arbitrate u).takeable = none → u.concluded = arbitrate u) ∧
  (∀ (u : State) (r : Request), u.calm → (arbitrate u).takeable = some r →
    u.concluded = pump 3 (dispatch r ((arbitrate u).setLink
      { (arbitrate u).link with queue := (arbitrate u).link.queue.tail }))) ∧
  (∀ u : State, u.concluded = pump 4 (finish u)) ∧
  (∀ u : State, u.takeable = if u.link.replyWaiting = none ∧ u.link.restartPending = false
    then u.link.queue.head? else none) ∧
  (∀ (n : Nat) (u : State), (arbitrate u).takeable = none → pump n u = arbitrate u) ∧
  (∀ (n : Nat) (u : State) (r : Request), (arbitrate u).takeable = some r →
    pump (n + 1) u = pump n (dispatch r ((arbitrate u).setLink
      { (arbitrate u).link with queue := (arbitrate u).link.queue.tail }))) ∧
  (∀ u : State, finish u = releaseHead (drain 1000 (releaseSleeps u))) ∧
  (∀ (u : State) (i : SlotId), i ∈ u.sleepers ↔ ∃ p : PendingSleep, u.lifeOf i = .sleepWait ∧
    (u.slot i).pendingSleep = some p ∧ p.verdictAwaited = false ∧ (u.slot i).holds = 0) ∧
  (∀ u : State, u.sleepers.Pairwise (fun i j => i < j) ∧
    releaseSleeps u = u.sleepers.foldl releaseSleep u) ∧
  (∀ (u : State) (i : SlotId) (p : PendingSleep), u.lifeOf i = .sleepWait →
    (u.slot i).pendingSleep = some p → releaseSleep u i = beginEntering i p.origin.cause u) ∧
  (∀ u : State,
    let t := releaseSleeps u
    (∀ (i : SlotId) (p : PendingSleep), i ∈ u.sleepers → (u.slot i).pendingSleep = some p →
      t.lifeOf i = (if (u.lineSet i).rdy.level then .asleep else .entering) ∧
      (t.slot i).last = some { cause := p.origin.cause, time := u.uptime } ∧
      (t.slot i).pendingSleep = none ∧ (t.slot i).verdictTimer = none) ∧
    (∀ i : SlotId, i ∉ u.sleepers → t.slot i = { u.slot i with holds := (t.slot i).holds }) ∧
    t.staging = u.staging ∧ t.outside = u.outside) ∧
  (∀ (n : Nat) (u : State), nextBusiness u = none → drain n u = u) ∧
  (∀ (n : Nat) (u v : State), nextBusiness u = some v → drain (n + 1) u = drain n v) ∧
  (∀ u : State, nextBusiness u = none ↔ u.staging.restore ≠ .between ∧ u.wakes = []) ∧
  (∀ u : State, u.staging.restore = .between → nextBusiness u = some (restoreNext u)) ∧
  (∀ (u : State) (w : WakeRequest) (rest : List WakeRequest), u.staging.restore ≠ .between →
    u.wakes = w :: rest → nextBusiness u = some (wake w.slot w.origin { u with wakes := rest })) ∧
  (∀ u : State, u.staging.startQueue = [] → releaseHead u = u) ∧
  (∀ (u : State) (p : QueuePlace) (rest : List QueuePlace), u.staging.startQueue = p :: rest →
    releaseHead u =
      if (∀ i : SlotId, u.lifeOf i ≠ .powering ∧ u.lifeOf i ≠ .releasing) ∧
          u.staging.staggerTimer = none ∧
          (u.slot p.slot).config.offTime * 100 ≤ (u.slot p.slot).offTimer ∧ u.staging.rail = .good
      then beginPowering p.slot p.origin.cause u else u) ∧
  (∀ (u : State) (p : QueuePlace) (rest : List QueuePlace), u.wakes = [] →
    u.staging.restore ≠ .between → u.sleepers = [] → u.staging.startQueue = p :: rest →
    finish u =
      if (∀ i : SlotId, u.lifeOf i ≠ .powering ∧ u.lifeOf i ≠ .releasing) ∧
          u.staging.staggerTimer = none ∧
          (u.slot p.slot).config.offTime * 100 ≤ (u.slot p.slot).offTimer ∧ u.staging.rail = .good
      then beginPowering p.slot p.origin.cause u else u)

/-- The transmit arbiter: a frame on TXD is left to its end; an idle TXD takes the waiting reply first,
then a Priority sending, then a Routine sending (R153). -/
def Obligations.ArbiterSendsRepliesFirst : Prop :=
  ∀ s : State,
    (s.link.tx ≠ .idle → arbitrate s = s) ∧
    (s.link.tx = .idle → ∀ f : Frame, s.link.replyWaiting = some f →
      arbitrate s = s.setLink { s.link with tx := .reply f, replyWaiting := none }) ∧
    (s.link.tx = .idle → s.link.replyWaiting = none → s.priority.sendWaiting = true →
      arbitrate s = { s with
        priority := { s.priority with sendWaiting := false }
        link := { s.link with tx := .notice .priority (s.priority.noticeFrame .priority) } }) ∧
    (s.link.tx = .idle → s.link.replyWaiting = none → s.priority.sendWaiting = false →
      s.routine.sendWaiting = true →
      arbitrate s = { s with
        routine := { s.routine with sendWaiting := false }
        link := { s.link with tx := .notice .routine (s.routine.noticeFrame .routine) } }) ∧
    (s.link.replyWaiting = none → s.priority.sendWaiting = false → s.routine.sendWaiting = false →
      arbitrate s = s)

/-! ### The Control Link -/

/-- The receiver takes a byte by its state (R146, R147), and none inside a break (R154); on a low RXD, before a
break is recognised, it takes it too (the model's choice, log 30). -/
def Obligations.ReceiverTakesBytes : Prop :=
  ∀ (s : State) (b : Byte), s.phase = .running →
    (s.link.inBreak = true → exec (.rxByte b) s = .next s.concluded) ∧
    (s.link.inBreak = false →
      (∀ r : Receiver,
        (s.link.receiver = .hunt ∧ b = 0xC3 ∧ r = .headerLen) ∨
        (s.link.receiver = .headerLen ∧ b.toNat ≤ 120 ∧ r = .headerSeq b) ∨
        (∃ len, s.link.receiver = .headerSeq len ∧ r = .headerKind len b) ∨
        (∃ seq, s.link.receiver = .headerKind 0 seq ∧ r = .checkHigh seq b []) ∨
        (∃ len seq, s.link.receiver = .headerKind len seq ∧ len ≠ 0 ∧ r = .body len seq b []) ∨
        (∃ len seq kind taken, s.link.receiver = .body len seq kind taken ∧
          taken.length + 1 ≠ len.toNat ∧ r = .body len seq kind (taken ++ [b])) ∨
        (∃ len seq kind taken, s.link.receiver = .body len seq kind taken ∧
          taken.length + 1 = len.toNat ∧ r = .checkHigh seq kind (taken ++ [b])) ∨
        (∃ seq kind payload, s.link.receiver = .checkHigh seq kind payload ∧
          r = .checkLow seq kind payload b) →
        exec (.rxByte b) s =
          .next (s.setLink { s.link with receiver := r, gapTimer := some 5 }).concluded) ∧
      (s.link.receiver = .hunt → b ≠ 0xC3 → exec (.rxByte b) s = .next s.concluded) ∧
      (s.link.receiver = .headerLen → 120 < b.toNat →
        exec (.rxByte b) s = exec .rxLenTooLong s) ∧
      (∀ seq kind payload high, s.link.receiver = .checkLow seq kind payload high →
        payload.length ≤ 120 →
        exec (.rxByte b) s = exec (.rxFrame seq kind payload (high ++ b)) s))

/-- The bytes of a frame, taken one by one from HUNT by a part with nothing else to do, end as the whole
frame does (R144 to R148). -/
def Obligations.BytesMakeTheFrame : Prop :=
  ∀ (s : State) (seq kind high low : Byte) (payload : List Byte), s.phase = .running → s.calm →
    s.linkFree → payload.length ≤ 120 →
    s.fed (0xC3 :: BitVec.ofNat 8 payload.length :: seq :: kind :: payload ++ [high, low]) =
      exec (.rxFrame seq kind payload (high ++ low)) s

/-- A complete frame is judged by check, kind and room, and is queued or discarded with its reason
(R148, R149). The check value (R145): from FFFFh, each byte of LEN, SEQ, KIND and the payload in its order, most
significant bit first, by the generator 1021h, with no inversion at the end. Outside the manual's frames, one
longer than LEN may say is discarded at its LEN byte, and none is received inside a break (log 18); a
GAP_TIMEOUT row whose gap timer does not run is without effect (log 2). A frame or LEN byte on a low RXD, before
a break is recognised, is taken (log 30). -/
def Obligations.FramesAreJudged : Prop :=
  crc [] = 0xFFFF ∧
  (∀ (bytes : List Byte) (b : Byte), crc (bytes ++ [b]) = (List.range 8).foldl
    (fun (register : Half) _ =>
      if register.getLsbD 15 then (register <<< 1) ^^^ 0x1021 else register <<< 1)
    (crc bytes ^^^ (b ++ (0x00 : Byte)))) ∧
  (∀ f : Frame, f.check = crc (BitVec.ofNat 8 f.payload.length :: f.seq :: f.kind :: f.payload)) ∧
  ∀ (s : State) (seq kind : Byte) (payload : List Byte) (check : Half), s.phase = .running →
    let good := crc (BitVec.ofNat 8 payload.length :: seq :: kind :: payload)
    let hunting := { s.link with receiver := Receiver.hunt, gapTimer := none }
    let discarded := fun reason : Half => (occur 59 (some reason) (s.setLink { hunting with
      discardCount := if s.link.discardCount = 0xFFFF then 0xFFFF else s.link.discardCount + 1 })).concluded
    (s.link.inBreak = true → exec (.rxFrame seq kind payload check) s = .next s.concluded) ∧
    (s.link.inBreak = false → 120 < payload.length →
      exec (.rxFrame seq kind payload check) s = .next (discarded 2)) ∧
    (s.link.inBreak = false → payload.length ≤ 120 →
      (check ≠ good → exec (.rxFrame seq kind payload check) s = .next (discarded 1)) ∧
      (check = good → kind ≠ 1 → exec (.rxFrame seq kind payload check) s = .next (discarded 4)) ∧
      (check = good → kind = 1 → 4 ≤ s.link.queue.length →
        exec (.rxFrame seq kind payload check) s = .next (discarded 5)) ∧
      (check = good → kind = 1 → s.link.queue.length < 4 →
        exec (.rxFrame seq kind payload check) s = .next (s.setLink { hunting with
          queue := s.link.queue ++ [{ seq := seq, payload := payload }] }).concluded)) ∧
    (exec .rxLenTooLong s = .next (if s.link.inBreak then s.concluded else discarded 2)) ∧
    (exec .gapTimeout s =
      .next (if s.link.gapTimer.isSome then discarded 3 else s.concluded))

/-- A request whose SEQ is that of the last executed request is answered from the cache and not
executed: its code and payload are not looked at, the duplicate count rises, the cache stays (R152). The reply
goes out at once on an idle TXD and waits behind a frame on it (R153). -/
def Obligations.DuplicatesAreAnsweredFromTheCache : Prop :=
  ∀ (s : State) (seq : Byte) (payload reply : List Byte), s.phase = .running → s.calm → s.linkFree →
    payload.length ≤ 120 → s.link.cache = some { seq := seq, payload := reply } →
    let counted := { s.link with duplicateCount :=
      if s.link.duplicateCount = 0xFFFF then 0xFFFF else s.link.duplicateCount + 1 }
    let frame : Frame := { seq := seq, kind := 0x02, payload := reply }
    exec (.badCodeRequest seq payload) s = .next (s.setLink (if s.link.tx = TxLine.idle
      then { counted with tx := .reply frame } else { counted with replyWaiting := some frame })) ∧
    (∀ (c : ReqCode) (args : List Byte), payload = c.byte :: args →
      exec (requestCommand c seq args) s = exec (.badCodeRequest seq payload) s)

/-- A request row is its frame, arriving whole and good (log 1), with the codes and lengths of section 10.2.
The tests before the owner: an unknown code, or none, is BAD_CODE (R167); a payload of another length than the
code's is BAD_LENGTH (R168); before HELLO every other request is WRONG_STATE (R161). None has an effect; the
refusal is cached like any reply (R151). A listening part takes a request as it arrives; a request that has
waited in the queue is dispatched in whatever state the part is in by then (R150): answered from the cache,
refused or carried out, its reply the reply waiting and in the cache (R151, R152). What a request does and
answers depends on the link by the greeted flag, the restart-pending mark and the two counts alone. -/
def Obligations.RequestsAreTestedInOrder : Prop :=
  ([ReqCode.hello, .status, .restart, .eventConfig, .eventRead, .eventList, .eventClear, .eventPost,
      .inputConfig, .inputRead, .channelOpen, .channelClose, .accept, .settle, .slotConfig, .slotRead,
      .slotOn, .slotStop, .slotCut, .slotSleep, .slotWake, .slotReset, .slotVerdict, .slotHold,
      .slotUnhold, .slotKick, .slotFaultClear, .slotRecoveryClear, .stageConfig, .stageRead,
      .shedConfig, .timerStart, .timerStop, .timerRead].map fun c => (c.byte, c.length)) =
    [(0x01, 1), (0x02, 1), (0x03, 1), (0x10, 7), (0x11, 3), (0x12, 1), (0x13, 9), (0x14, 4),
      (0x15, 3), (0x16, 1), (0x20, 5), (0x21, 2), (0x22, 3), (0x23, 3), (0x30, 21), (0x31, 2),
      (0x32, 2), (0x33, 2), (0x34, 2), (0x35, 3), (0x36, 2), (0x37, 2), (0x38, 3), (0x39, 2),
      (0x3A, 2), (0x3B, 2), (0x3C, 2), (0x3D, 3), (0x40, 3), (0x41, 1), (0x42, 4), (0x50, 5),
      (0x51, 2), (0x52, 1)] ∧
  (∀ (c : ReqCode) (seq : Byte) (args : List Byte) (s : State),
    exec (requestCommand c seq args) s =
      exec (.rxFrame seq 0x01 (c.byte :: args)
        (Frame.check { seq := seq, kind := 0x01, payload := c.byte :: args })) s) ∧
  (∀ (seq : Byte) (payload : List Byte) (s : State),
    exec (.badCodeRequest seq payload) s =
      exec (.rxFrame seq 0x01 payload
        (Frame.check { seq := seq, kind := 0x01, payload := payload })) s) ∧
  (∀ (s : State) (seq : Byte), s.listening seq →
    (∀ payload : List Byte, payload.length ≤ 120 →
      (∀ c : ReqCode, payload.head? ≠ some c.byte) →
      exec (.badCodeRequest seq payload) s = .next (s.answered seq [0x02])) ∧
    (∀ (c : ReqCode) (args : List Byte), args.length + 1 ≤ 120 → args.length + 1 ≠ c.length →
      exec (requestCommand c seq args) s = .next (s.answered seq [0x03])) ∧
    (∀ (c : ReqCode) (args : List Byte), args.length + 1 = c.length → s.link.greeted = false →
      c ≠ .hello → exec (requestCommand c seq args) s = .next (s.answered seq [0x06])) ∧
    (∀ (c : ReqCode) (args : List Byte), args.length + 1 = c.length →
      s.link.greeted = true ∨ c = .hello → exec (requestCommand c seq args) s =
        .next ((carryOut c args s).state.answered seq (carryOut c args s).reply)) ∧
    (∀ reply : List Byte,
      let cached := { s.link with cache := some { seq := seq, payload := reply } }
      let frame : Frame := { seq := seq, kind := 0x02, payload := reply }
      s.answered seq reply = s.setLink (if s.link.tx = TxLine.idle
        then { cached with tx := .reply frame } else { cached with replyWaiting := some frame }))) ∧
  (∀ (u : State) (r : Request),
    let frame := fun reply : List Byte => ({ seq := r.seq, kind := 0x02, payload := reply } : Frame)
    let executed := fun (v : State) (reply : List Byte) => (finish v).setLink { (finish v).link with
      replyWaiting := some (frame reply)
      cache := some { seq := r.seq, payload := reply } }
    (∀ reply : List Byte, u.link.cache = some { seq := r.seq, payload := reply } →
      dispatch r u = u.setLink { u.link with
        replyWaiting := some (frame reply)
        duplicateCount :=
          if u.link.duplicateCount = 0xFFFF then 0xFFFF else u.link.duplicateCount + 1 }) ∧
    (u.freshSeq r.seq →
      ((∀ c : ReqCode, r.payload.head? ≠ some c.byte) → dispatch r u = executed u [0x02]) ∧
      (∀ (c : ReqCode) (args : List Byte), r.payload = c.byte :: args →
        (args.length + 1 ≠ c.length → dispatch r u = executed u [0x03]) ∧
        (args.length + 1 = c.length → u.link.greeted = false → c ≠ .hello →
          dispatch r u = executed u [0x06]) ∧
        (args.length + 1 = c.length → u.link.greeted = true ∨ c = .hello →
          dispatch r u = executed (carryOut c args u).state (carryOut c args u).reply)))) ∧
  (∀ (c : ReqCode) (args : List Byte) (u : State) (x : Link), x.greeted = u.link.greeted →
    x.restartPending = u.link.restartPending → x.discardCount = u.link.discardCount →
    x.duplicateCount = u.link.duplicateCount →
    let done := carryOut c args u
    carryOut c args (u.setLink x) = {
      state := done.state.setLink { x with
        greeted := done.state.link.greeted
        restartPending := done.state.link.restartPending }
      reply := done.reply })

/-- RXD starts and stops the break timer, a break is recognised, and at its end the link is reset with the
channels' re-sendings (R46, R154, R155); a RESTART reply that this drops is followed by the warm restart
(R156). Both rows act unconditionally (log 12). -/
def Obligations.BreaksResetTheLink : Prop :=
  ∀ s : State, s.phase = .running →
    exec .breakDetect s =
      .next (s.setLink { s.link with rxd := false, breakTimer := none, inBreak := true }).concluded ∧
    (∃ u : State,
      exec .linkReset s = .next (State.concluded
        (if s.link.restartPending = true ∧ s.link.replyWaiting.isSome = true then warmRestart u else u)) ∧
      u.link = { s.link with
        receiver := .hunt, gapTimer := none, rxd := true, breakTimer := none, inBreak := false,
        queue := [], replyWaiting := none, cache := none } ∧
      (∀ c : ChannelId, (s.channel c).state = .offered → u.channel c = { s.channel c with
        offerTimer := .waiting, retryCount := 0, sendWaiting := true }) ∧
      (∀ c : ChannelId, (s.channel c).state ≠ .offered → u.channel c = s.channel c) ∧
      u.entries = s.entries ∧ u.slots = s.slots ∧ u.staging = s.staging ∧ u.wakes = s.wakes ∧
      u.timers = s.timers ∧ u.board = s.board ∧ u.lines = s.lines ∧ u.uptime = s.uptime ∧
      u.session = s.session) ∧
    (∀ level : Bool, level = s.link.rxd →
      exec (.pinLevelChange .rxd level) s = .next s.concluded) ∧
    (s.link.rxd = true → exec (.pinLevelChange .rxd false) s =
      .next (s.setLink { s.link with rxd := false, breakTimer := some 2 }).concluded) ∧
    (s.link.rxd = false → s.link.inBreak = false → exec (.pinLevelChange .rxd true) s =
      .next (s.setLink { s.link with rxd := true, breakTimer := none }).concluded) ∧
    (s.link.rxd = false → s.link.inBreak = true →
      exec (.pinLevelChange .rxd true) s = exec .linkReset s)

/-- A ready part answers RESTART with DONE and marks the restart as pending (R164). At the end of a frame
on TXD a reply frees the line, behind the RESTART reply comes the warm restart (R156), a notice is counted
and starts its channel's offer timer (R34); the arbiter then goes on (R153). That the row is without effect at
an idle TXD, which the manual does not give, is the model's choice (log 29). -/
def Obligations.FramesOnTxdEnd : Prop :=
  (∀ (s : State) (seq : Byte), s.ready seq →
    exec (.restart seq []) s =
      .next ((s.setLink { s.link with restartPending := true }).answered seq [0x00])) ∧
  ∀ s : State, s.phase = .running →
    (s.link.tx = .idle → exec .txFrameEnd s = .next s.concluded) ∧
    (∀ f : Frame, s.link.tx = .reply f →
      (s.link.restartPending = false ∨ s.link.replyWaiting.isSome = true →
        exec .txFrameEnd s = .next (s.setLink { s.link with tx := .idle }).concluded) ∧
      (s.link.restartPending = true → s.link.replyWaiting = none →
        exec .txFrameEnd s =
          .next (warmRestart (s.setLink { s.link with tx := .idle })).concluded)) ∧
    (∀ (c : ChannelId) (f : Frame), s.link.tx = .notice c f →
      exec .txFrameEnd s =
        .next ((s.setLink { s.link with tx := .idle }).setChannel c { s.channel c with
          offersSent :=
            if (s.channel c).offersSent = 0xFFFF then 0xFFFF else (s.channel c).offersSent + 1
          offerTimer :=
            if (s.channel c).state = .offered ∧ (s.channel c).sendWaiting = false then .running 250
            else (s.channel c).offerTimer }).concluded)

/-- What a warm restart resets and what it keeps (R165): the link, the Session-class entries, the
channels with their rebuilt lists, the host holds and the timers. -/
def Obligations.WarmRestartKeepsTheModules : Prop :=
  ∀ s : State,
    let t := warmRestart s
    t.link = { s.link with receiver := .hunt, gapTimer := none, queue := [], cache := none,
                           greeted := false, restartPending := false, replyWaiting := none } ∧
    (∀ e : EntryId, e.val ≤ 50 → t.entry e = s.entry e) ∧
    (∀ e : EntryId, 51 ≤ e.val → t.entry e = { s.entry e with latch := none }) ∧
    (∀ c : ChannelId, (t.channel c).state = .closed ∧ (t.channel c).inFlight = [] ∧
      (t.channel c).sendWaiting = false ∧ (t.channel c).offerTimer = .stopped ∧
      (t.channel c).serviceTimer = none ∧ (t.channel c).retryCount = 0 ∧
      (t.channel c).remaining = 0 ∧ (t.channel c).number = (s.channel c).number ∧
      (t.channel c).itemLimit = (s.channel c).itemLimit ∧
      (t.channel c).retries = (s.channel c).retries ∧
      (t.channel c).serviceLimit = (s.channel c).serviceLimit ∧
      (t.channel c).stallCount = (s.channel c).stallCount ∧
      (t.channel c).overrunCount = (s.channel c).overrunCount ∧
      (t.channel c).offersSent = (s.channel c).offersSent ∧
      (∀ e : EntryId, e ∈ (t.channel c).pending ↔ (t.entry e).enabled = true ∧
        (t.entry e).latched = true ∧ (t.entry e).route.channel? = some c) ∧
      (t.channel c).pending.Pairwise fun a b => t.firstTimeOf a < t.firstTimeOf b ∨
        (t.firstTimeOf a = t.firstTimeOf b ∧ a < b)) ∧
    (∀ i : SlotId, t.slot i = { s.slot i with hostHolds := 0, holds := (t.slot i).holds }) ∧
    (s.holdsAgree → t.holdsAgree) ∧
    t.staging = s.staging ∧ t.board = s.board ∧ t.lines = s.lines ∧ t.uptime = s.uptime ∧
    (∀ n : TimerId, t.timer n = { s.timer n with state := .stopped, remaining := 0 }) ∧
    t.session = { s.session with reason := .request, restartTime := s.uptime }

/-- HELLO reports the identity, the greeted flag as it was, the restart record, the sampled straps and
the uptime, and sets the flag, greeted before or not (R162). -/
def Obligations.HelloGreetsThePart : Prop :=
  ∀ (s : State) (seq : Byte), s.listening seq →
    exec (.hello seq []) s = .next ((s.setLink { s.link with greeted := true }).answered seq
      (([0x00, 0x0A, 0x32, 0x01, if s.link.greeted then 0x01 else 0x00,
        match s.session.reason with
          | .power => 0x01
          | .pin => 0x02
          | .request => 0x03] : List Byte) ++
        [s.session.restartTime.extractLsb' 24 8, s.session.restartTime.extractLsb' 16 8,
          s.session.restartTime.extractLsb' 8 8, s.session.restartTime.extractLsb' 0 8] ++
        [s.session.linkRate.setWidth 8, if s.session.autostart then 0x01 else 0x00] ++
        [s.uptime.extractLsb' 24 8, s.uptime.extractLsb' 16 8, s.uptime.extractLsb' 8 8,
          s.uptime.extractLsb' 0 8]))

/-- The reading requests are answered DONE with what they report and change nothing (R18, R20, R23, R57,
R132, R140, R163); the layouts of section 10.5, byte for byte, with absent fields as R170 says, multi-byte
fields high byte first (R166), and the codes of section 10.7 (those of slot states and causes are in
TransitionsMoveTheRecord). -/
def Obligations.ReadsChangeNothing : Prop :=
  (∀ (s : State) (seq : Byte), s.ready seq →
    exec (.status seq []) s = .next (s.answered seq (0x00 :: s.statusReport)) ∧
    (∀ first number : Byte,
      (first.toNat < 60 ∧ 1 ≤ number.toNat ∧ number.toNat ≤ 8 ∧ first.toNat + number.toNat ≤ 60 →
        exec (.eventRead seq [first, number]) s = .next (s.answered seq (0x00 :: first :: number ::
          ((List.finRange 60).filter fun e => decide (first.toNat ≤ e.val ∧
            e.val < first.toNat + number.toNat)).flatMap s.entryReport))) ∧
      (¬ (first.toNat < 60 ∧ 1 ≤ number.toNat ∧ number.toNat ≤ 8 ∧
          first.toNat + number.toNat ≤ 60) →
        exec (.eventRead seq [first, number]) s = .next (s.answered seq [0x04]))) ∧
    (∃ es : List EntryId,
      exec (.eventList seq []) s = .next (s.answered seq
        (0x00 :: BitVec.ofNat 8 es.length :: es.map fun e => BitVec.ofNat 8 e.val)) ∧
      (∀ e, e ∈ es ↔ (s.entry e).latched = true) ∧
      es.Pairwise fun a b => s.firstTimeOf a < s.firstTimeOf b ∨
        (s.firstTimeOf a = s.firstTimeOf b ∧ a < b)) ∧
    (∃ (gei : Half) (board : Byte) (slots : SlotId → Half),
      exec (.inputRead seq []) s = .next (s.answered seq (0x00 :: (halfBytes gei ++ [board] ++
        (List.finRange 6).flatMap (fun i => halfBytes (slots i)) ++
        (List.finRange 12).map fun n => BitVec.ofNat 8 s.board.geiDebounce[n]))) ∧
      (∀ n : GeiLine, gei.getLsbD n.val = (s.geiLine n).level) ∧
      (∀ n : Nat, 12 ≤ n → gei.getLsbD n = false) ∧
      board.getLsbD 0 = s.board.mainGood.level ∧ board.getLsbD 1 = s.board.therm.level ∧
      (∀ n : Nat, 2 ≤ n → board.getLsbD n = false) ∧
      (∀ i : SlotId, let l := s.lineSet i
        [l.pgood.level, l.rdy.level, l.wake.level, l.alert.level, l.slpReq.level, l.hbeat.level,
          l.act.level, l.btn.level, l.present.level] =
        (List.range 9).map fun k => (slots i).getLsbD k) ∧
      (∀ (i : SlotId) (n : Nat), 9 ≤ n → (slots i).getLsbD n = false)) ∧
    (∀ (b : Byte) (i : SlotId), b.toNat = i.val + 1 →
      exec (.slotRead seq [b]) s = .next (s.answered seq (0x00 :: s.slotReport i))) ∧
    (∀ b : Byte, b.toNat = 0 ∨ 6 < b.toNat →
      exec (.slotRead seq [b]) s = .next (s.answered seq [0x04])) ∧
    exec (.stageRead seq []) s = .next (s.answered seq (0x00 :: s.stageReport)) ∧
    exec (.timerRead seq []) s = .next (s.answered seq (0x00 :: (wordBytes s.uptime ++
      (List.finRange 4).flatMap fun t => (s.timer t).bytes)))) ∧
  (∀ s : State,
    let one := fun n : Nat => BitVec.ofNat 8 n
    let two := fun h : Half => [h.extractLsb' 8 8, h.extractLsb' 0 8]
    let four := fun w : Word =>
      [w.extractLsb' 24 8, w.extractLsb' 16 8, w.extractLsb' 8 8, w.extractLsb' 0 8]
    let bit := fun (b : Bool) (value : Byte) => if b then value else 0
    let part := fun (unit : Nat) (left : Option Nat) => one ((left.getD 0 + (unit - 1)) / unit)
    let block := fun ch : Channel =>
      [ch.state.code, one ch.itemLimit, one ch.retries, one ch.serviceLimit, ch.number,
        one ch.pending.length, one ch.inFlight.length, part 100 ch.serviceTimer] ++
      two ch.stallCount ++ two ch.overrunCount ++ two ch.offersSent
    let six := fun pairs : List (List Byte) =>
      (List.range 6).flatMap fun k => pairs[k]?.getD [0x00, 0x00]
    s.statusReport = four s.uptime ++ [s.session.reason.code] ++ four s.session.restartTime ++
      block s.priority ++ block s.routine ++ two s.link.discardCount ++ two s.link.duplicateCount ++
      [one ((List.finRange 60).filter fun e => (s.entry e).latched).length,
        if s.staging.rail = .good then 0x01 else 0x00, bit s.board.therm.level 0x01,
        one s.staging.shedLevel] ++
      ((List.finRange 6).flatMap fun i => [(s.lifeOf i).code, bit (s.lineSet i).present.level 0x01]) ∧
    (∀ e : EntryId,
      let x := s.entry e
      let kind : Byte := if e < 12 then 0x00 else if e < 18 then 0x01 else if e < 24 then 0x02
        else if e < 30 then 0x03 else if e < 36 then 0x04 else if e < 42 then 0x05
        else if e < 48 then 0x06 else if e = 48 then 0x07 else if e = 49 then 0x08
        else if e = 50 then 0x09 else if e < 55 then 0x0A else if e < 59 then 0x0B else 0x0C
      let place : Byte := if e ∈ s.priority.pending then 0x20 else if e ∈ s.routine.pending then 0x40
        else if e ∈ s.priority.inFlight then 0x60 else if e ∈ s.routine.inFlight then 0x80 else 0x00
      s.entryReport e =
        [one e.val, kind, bit x.enabled 0x01 + bit (decide (51 ≤ e.val)) 0x02 + bit x.latched 0x04 +
            bit (x.latch.bind Latch.detail).isSome 0x08 + bit (s.levelActive e) 0x10 + place,
          x.trigger.code, x.route.code, x.wakeSet.setWidth 8, x.holdSet.setWidth 8,
          (match x.latch with | some l => l.count | none => 0x00)] ++
        four (match x.latch with | some l => l.firstTime | none => 0) ++
        two ((x.latch.bind Latch.detail).getD 0)) ∧
    (∀ i : SlotId,
      let x := s.slot i
      let d := s.driven i
      s.slotReport i =
        [one (i.val + 1), x.state.code,
          bit (s.lineSet i).present.level 0x01 +
            bit (decide (i ∈ s.staging.shedList.map ShedPlace.slot)) 0x02 +
            bit x.deferredWake.isSome 0x04 + bit x.override 0x08 + bit x.fallback 0x10 +
            bit x.expiredOnce 0x20 +
            bit (match x.pendingSleep with | some p => p.verdictAwaited | none => false) 0x40 +
            bit x.buttonHold.isSome 0x80,
          (match x.last with | some t => t.cause.code | none => 0x00)] ++
        four (match x.last with | some t => t.time | none => 0) ++
        [(match x.step with | some t => t.kind.code | none => 0x00)] ++
        four (match x.step with | some t => BitVec.ofNat 32 t.left | none => 0) ++
        four (if d.railEn = true ∨ x.state.railOn = true then 0 else BitVec.ofNat 32 x.offTimer) ++
        [(match x.stateAtLoss with | some l => l.code | none => 0xFF),
          (match x.state, s.staging.startQueue.find? (fun p => decide (p.slot = i)) with
            | .queued, some p => p.origin.cause.code
            | _, _ => 0x00),
          one x.hostHolds, one x.holds,
          (match x.deferredWake with | some c => c.code | none => 0x00),
          (match x.pendingSleep with | some p => p.origin.code | none => 0x00)] ++
        four (BitVec.ofNat 32 (x.verdictTimer.getD 0)) ++ [one x.recoveryCount] ++
        two (BitVec.ofNat 16 (x.heartbeat.getD 0)) ++
        two (BitVec.ofNat 16 ((x.idleTimer.getD 0 + 999) / 1000)) ++ x.config.bytes ++
        [bit d.railEn 0x01 + bit d.railLow 0x02 + bit d.mrst 0x04 + bit d.slp 0x08 +
          bit d.stp 0x10 + bit d.bsel 0x20]) ∧
    (let u := s.staging;
      s.stageReport =
        [bit (decide (u.rail = .good)) 0x01 + bit u.settleTimer.isSome 0x02 +
          bit u.firstReturn 0x04 + bit s.board.therm.level 0x08 + bit u.shedEnable 0x10 +
          bit (decide (u.restore ≠ .clear)) 0x20] ++
        two (BitVec.ofNat 16 (u.settleTimer.getD 0)) ++ [one u.staggerGap, one u.railSettle] ++
        two (BitVec.ofNat 16 (u.staggerTimer.getD 0)) ++
        [(match (List.finRange 6).find? (fun i =>
              decide (s.lifeOf i = .powering ∨ s.lifeOf i = .releasing)) with
            | some i => one (i.val + 1)
            | none => 0x00),
          one u.startQueue.length] ++
        six (u.startQueue.map fun p => [one (p.slot.val + 1), p.origin.cause.code]) ++
        [one u.escalationInterval, one u.coolTime, one u.shedLevel, part 1000 u.escalationTimer,
          part 1000 u.coolTimer,
          (match u.restore with | .watching i => one (i.val + 1) | .clear => 0x00 | .between => 0x00),
          one u.shedList.length] ++
        six (u.shedList.map fun p => [one (p.slot.val + 1), p.action.code])) ∧
    (∀ t : TimerId, (s.timer t).bytes = [(s.timer t).state.code, (s.timer t).mode.code] ++
      two (s.timer t).interval ++
      two (match (s.timer t).state with | .running => (s.timer t).remaining | .stopped => 0))) ∧
  (∀ (s : State) (e : EntryId) (l : Latch), (s.entry e).latch = some l →
    s.firstTimeOf e = l.firstTime.toNat) ∧
  (∀ h : Half, halfBytes h = [h.extractLsb' 8 8, h.extractLsb' 0 8]) ∧
  (∀ w : Word, wordBytes w =
    [w.extractLsb' 24 8, w.extractLsb' 16 8, w.extractLsb' 8 8, w.extractLsb' 0 8]) ∧
  [Trigger.rise, .fall, .both, .high, .low, .pulse].map Trigger.code = [0, 1, 2, 3, 4, 5] ∧
  [Route.none, .priority, .routine].map Route.code = [0, 1, 2] ∧
  [ChannelId.priority, .routine].map channelCode = [1, 2] ∧
  [ChannelState.closed, .idle, .offered, .servicing, .stalled].map ChannelState.code =
    [0, 1, 2, 3, 4] ∧
  [RestartReason.power, .pin, .request].map RestartReason.code = [1, 2, 3] ∧
  [StepKind.powerUp, .resetHold, .sleepEntry, .wake, .stop, .holdWait].map StepKind.code =
    [1, 2, 3, 4, 5, 6] ∧
  [SleepOrigin.line, .idle, .host].map SleepOrigin.code = [1, 2, 3] ∧
  [Verdict.deny, .grant].map Verdict.code = [0, 1] ∧
  [IdleAction.none, .sleep].map IdleAction.code = [0, 1] ∧
  [ResumePolicy.off, .restore, .on].map ResumePolicy.code = [0, 1, 2] ∧
  [ShedAction.sleep, .stop].map ShedAction.code = [0, 1] ∧
  [TimerState.stopped, .running].map TimerState.code = [0, 1] ∧
  [TimerMode.once, .repeats].map TimerMode.code = [0, 1]

/-! ### The Event Table and the lines -/

/-- One occurrence (R9, R10, R11, R12): what it makes of its entry, which wake requests it sends, which
hold counts it raises, and that nothing else of the table, the slots or the Staging Unit changes. That the
requests wait in a list, and that those of one wake set stand in ascending slot order, is the model's choice
(logs 6, 7). -/
def Obligations.OccurrencesLatchAndCount : Prop :=
  ∀ (s : State) (e : EntryId) (d : Option Half),
    let x := s.entry e
    let t := occur e d s
    (x.latch = none →
      t.entry e = { x with latch := some { count := 1, firstTime := s.uptime, detail := d } }) ∧
    (∀ l : Latch, x.latch = some l → t.entry e = { x with latch := some {
      count := if l.count = 255 then 255 else l.count + 1
      firstTime := l.firstTime
      detail := if d.isSome then d else l.detail } }) ∧
    (∀ e' : EntryId, e' ≠ e → t.entry e' = s.entry e') ∧
    t.wakes = s.wakes ++ (if x.enabled then
      ((List.finRange 6).filter fun i => x.wakeSet.getLsbD i.val).map fun i =>
        { slot := i, origin := .wakeEvent } else []) ∧
    (∀ i : SlotId, t.slot i = { s.slot i with
      holds := (s.slot i).holds + (if x.enabled = true ∧ x.latch = none ∧
        x.holdSet.getLsbD i.val = true then 1 else 0) }) ∧
    t.staging = s.staging ∧ t.outside = s.outside

/-- An occurrence on an enabled entry puts it at the tail of its route's pending list, unless it is there
or in flight already (R9, R10); an IDLE channel composes at once (R30). The channel a route names (R28). -/
def Obligations.OccurrencesJoinTheirList : Prop :=
  [Route.none, .priority, .routine].map Route.channel? =
    [none, some ChannelId.priority, some ChannelId.routine] ∧
  [ChannelId.priority, .routine].map otherChannel = [.routine, .priority] ∧
  ∀ (s : State) (e : EntryId) (d : Option Half),
    let x := s.entry e
    let t := occur e d s
    ((x.enabled = false ∨ x.route = .none ∨ e ∈ s.priority.inFlight ∨ e ∈ s.routine.inFlight) →
      t.priority = s.priority ∧ t.routine = s.routine) ∧
    (∀ c : ChannelId, x.route.channel? = some c → e ∈ (s.channel c).pending →
      t.priority = s.priority ∧ t.routine = s.routine) ∧
    (∀ c : ChannelId, x.enabled = true → x.route.channel? = some c → e ∉ s.priority.inFlight →
      e ∉ s.routine.inFlight → e ∉ (s.channel c).pending →
      t.channel (otherChannel c) = s.channel (otherChannel c) ∧
      ((s.channel c).state ≠ .idle → t.channel c =
        { s.channel c with pending := (s.channel c).pending ++ [e] }) ∧
      ((s.channel c).state = .idle → t.channel c = Channel.composed
        { s.channel c with pending := (s.channel c).pending ++ [e] } t.itemOf))

/-- The conditioned edges of the GEI, ALERT and WAKE lines reach their entries by the trigger (R7, R8); a
rise of WAKE is also a wake request to its own slot, taken first (R91; log 17). A row that names the level
the line has already is no edge (log 3). -/
def Obligations.LineEdgesFollowTheTrigger : Prop :=
  ∀ s : State, s.phase = .running →
    let taken := fun (p : Pin) (level : Bool) =>
      s.setPinLine p { pin := level, level := level, period := none }
    let occurs := fun (t : Trigger) (level : Bool) =>
      (level = true ∧ (t = .rise ∨ t = .both ∨ t = .high)) ∨
        (level = false ∧ (t = .fall ∨ t = .both ∨ t = .low))
    let edged := fun (e : EntryId) (level : Bool) (u : State) =>
      if occurs (s.entry e).trigger level then occur e none u else u
    (∀ (n : GeiLine) (level : Bool),
      exec (.geiEdge n level) s = .next (if (s.geiLine n).level = level
        then (taken (.gei n) level).concluded
        else (edged ⟨n.val, by omega⟩ level (taken (.gei n) level)).concluded)) ∧
    (∀ (i : SlotId) (level : Bool),
      exec (.alertEdge i level) s = .next (if (s.lineSet i).alert.level = level
        then (taken (.alert i) level).concluded
        else (edged ⟨18 + i.val, by omega⟩ level (taken (.alert i) level)).concluded)) ∧
    (∀ i : SlotId,
      exec (.wakeLineFall i) s = .next (if (s.lineSet i).wake.level = false
        then (taken (.wake i) false).concluded
        else (edged ⟨12 + i.val, by omega⟩ false (taken (.wake i) false)).concluded)) ∧
    (∀ i : SlotId, (s.lineSet i).wake.level = false →
      exec (.wakeLineRise i) s = .next (State.concluded
        (edgeAt ⟨12 + i.val, by omega⟩ true (wake i .wakeLine (taken (.wake i) true))))) ∧
    (∀ i : SlotId, (s.lineSet i).wake.level = true →
      exec (.wakeLineRise i) s = .next (taken (.wake i) true).concluded) ∧
    (∀ (e : EntryId) (level : Bool) (u : State),
      edgeAt e level u = if occurs (u.entry e).trigger level then occur e none u else u)

/-- A raw pin of a conditioned line (R4, R5): back at the conditioned level it abandons a running period;
at the other level it starts one, lets a running one run on, or is taken at once where the line has no
time to persist, and then does what the row of the line's edge does. At the end of a period (log 4) that row
is due; the fall of SLPREQ, which has none, is taken there. A row to the other level sets pin and level
(log 3). The line each pin feeds; its record is one line's, and nothing else moves with it. -/
def Obligations.RawPinsAreConditioned : Prop :=
  (∀ s : State,
    (∀ n : GeiLine, s.pinLine (.gei n) = some (s.geiLine n)) ∧
    s.pinLine .mainGood = some s.board.mainGood ∧ s.pinLine .therm = some s.board.therm ∧
    (∀ i : SlotId, let l := s.lineSet i
      [Pin.wake i, .alert i, .slpReq i, .btn i, .present i, .hbeat i, .act i, .rdy i, .pgood i].map
        s.pinLine = [l.wake, l.alert, l.slpReq, l.btn, l.present, l.hbeat, l.act, l.rdy, l.pgood].map
          some) ∧
    [Pin.rxd, .lrate1, .lrate0, .autostart].map s.pinLine = [none, none, none, none] ∧
    (∀ (p : Pin) (x y : Line), s.pinLine p = some x →
      let t := s.setPinLine p y
      t.pinLine p = some y ∧ (∀ q : Pin, q ≠ p → t.pinLine q = s.pinLine q) ∧
      t.board.geiDebounce = s.board.geiDebounce ∧ t = { s with board := t.board, lines := t.lines })) ∧
  ∀ (s : State) (p : Pin) (level : Bool) (x : Line), s.phase = .running → s.pinLine p = some x →
    (level = x.level → exec (.pinLevelChange p level) s =
      .next (s.setPinLine p { pin := level, level := x.level, period := none }).concluded) ∧
    (level ≠ x.level → ∀ left : Nat, x.period = some left →
      exec (.pinLevelChange p level) s =
        .next (s.setPinLine p { pin := level, level := x.level, period := some left }).concluded) ∧
    (level ≠ x.level → x.period = none → s.qualifyTime p level ≠ 0 →
      exec (.pinLevelChange p level) s = .next (s.setPinLine p
        { pin := level, level := x.level, period := some (s.qualifyTime p level) }).concluded) ∧
    (level ≠ x.level → x.period = none → s.qualifyTime p level = 0 →
      exec (.pinLevelChange p level) s = .next (State.concluded (deliver p level
        (s.setPinLine p { pin := level, level := level, period := none })))) ∧
    (∀ c : Instr, lineCommand p level = some c → level ≠ x.level →
      exec c s = .next (State.concluded (deliver p level
        (s.setPinLine p { pin := level, level := level, period := none }))) ∧
      (x.period = none → s.qualifyTime p level = 0 → exec (.pinLevelChange p level) s = exec c s) ∧
      (x.pin = level → x.period = some 1 → s.qualifyTime p level ≠ 0 ∨ (∃ n, p = .gei n) →
        c ∈ s.counted.due)) ∧
    (lineCommand p level = none → ∀ u : State, deliver p level u = u) ∧
    (∀ i : SlotId, p = .slpReq i → x = { pin := false, level := true, period := some 1 } →
      s.counted.pinLine p = some { pin := false, level := false, period := none }) ∧
    (∀ n : GeiLine, s.qualifyTime (.gei n) level = s.board.geiDebounce[n]) ∧
    s.qualifyTime .therm level = 50 ∧
    (∀ i : SlotId, s.qualifyTime (.wake i) level = 8 ∧ s.qualifyTime (.alert i) level = 8 ∧
      s.qualifyTime (.slpReq i) level = 8 ∧ s.qualifyTime (.btn i) level = 8 ∧
      s.qualifyTime (.present i) level = 8 ∧ s.qualifyTime (.hbeat i) level = 0 ∧
      s.qualifyTime (.act i) level = 0 ∧ s.qualifyTime (.rdy i) level = 0 ∧
      s.qualifyTime (.pgood i) level = (if level then 0 else 1)) ∧
    s.qualifyTime .mainGood level = (if level then 0 else 1)

/-- EVENT_CONFIG (R19): the checks, and the change taken in one step: the record, the hold counts, the
pending place, and the occurrence of a level trigger whose condition holds. -/
def Obligations.EventConfigChangesInOneStep : Prop :=
  ∀ (s : State) (seq : Byte), s.ready seq →
    (∀ (e : EntryId) (new : Entry), (new.trigger = .pulse ↔ 24 ≤ e.val) →
      exec (.eventConfig seq [BitVec.ofNat 8 e.val, if new.enabled then 1 else 0, new.trigger.code,
        new.route.code, new.wakeSet.setWidth 8, new.holdSet.setWidth 8]) s =
        .next ((reconfigure e new s).answered seq [0x00])) ∧
    (∀ b1 b2 b3 b4 b5 b6 : Byte,
      (60 ≤ b1.toNat ∨ 2 ≤ b2.toNat ∨ (b1.toNat < 24 ∧ 5 ≤ b3.toNat) ∨
        (24 ≤ b1.toNat ∧ b3.toNat ≠ 5) ∨ 3 ≤ b4.toNat ∨ 64 ≤ b5.toNat ∨ 64 ≤ b6.toNat) →
      exec (.eventConfig seq [b1, b2, b3, b4, b5, b6]) s = .next (s.answered seq [0x04])) ∧
    (∀ (e : EntryId) (new : Entry),
      let held := { new with latch := (s.entry e).latch }
      let placed := replace e (replaceEntry e held s)
      let wants := fun c : ChannelId => held.enabled = true ∧ held.latched = true ∧
        e ∉ s.priority.inFlight ∧ e ∉ s.routine.inFlight ∧ held.route.channel? = some c
      let counted := fun (x : Entry) (i : SlotId) =>
        x.enabled = true ∧ x.latched = true ∧ x.holdSet.getLsbD i.val = true
      (new.trigger = (s.entry e).trigger ∨ placed.levelActive e = false →
        reconfigure e new s = placed) ∧
      (new.trigger ≠ (s.entry e).trigger → placed.levelActive e = true →
        reconfigure e new s = occur e none placed) ∧
      placed.entry e = held ∧ (∀ e' : EntryId, e' ≠ e → placed.entry e' = s.entry e') ∧
      (∀ i : SlotId, placed.slot i =
        { s.slot i with
          holds :=
            if ¬ counted (s.entry e) i ∧ counted held i then (s.slot i).holds + 1
            else if counted (s.entry e) i ∧ ¬ counted held i then (s.slot i).holds - 1
            else (s.slot i).holds }) ∧
      ((∀ c : ChannelId, ¬ wants c) → ∀ c : ChannelId, placed.channel c =
        { s.channel c with pending := (s.channel c).pending.filter (· ≠ e) }) ∧
      (∀ c : ChannelId, wants c → e ∈ (s.channel c).pending →
        placed.priority = s.priority ∧ placed.routine = s.routine) ∧
      (∀ c : ChannelId, wants c → e ∉ (s.channel c).pending → (s.channel c).state ≠ .idle →
        placed.channel c = { s.channel c with pending := (s.channel c).pending ++ [e] } ∧
        placed.channel (otherChannel c) = { s.channel (otherChannel c) with
          pending := (s.channel (otherChannel c)).pending.filter (· ≠ e) }) ∧
      (∀ c : ChannelId, wants c → (s.channel c).pending = [] → (s.channel c).state = .idle →
        placed.channel c = Channel.composed { s.channel c with pending := [e] } placed.itemOf) ∧
      placed.staging = s.staging ∧ placed.wakes = s.wakes ∧ placed.outside = s.outside)

/-- EVENT_CLEAR (R16, R22): the named entries that are not level-active are cleared, leave their pending
list, and let go of the slots they hold (R12); the others are left and told, as an entry set (R166); a set
that names an index above 59 clears nothing. An entry is level-active while its trigger is HIGH and its line
asserted, or LOW and its line released (R8): GEI, WAKE and ALERT lines, and no other source (R2). -/
def Obligations.EventClearClearsWhatItCan : Prop :=
  (∀ (s : State) (e : EntryId),
    let active := fun line : Line => ((s.entry e).trigger = .high ∧ line.level = true) ∨
      ((s.entry e).trigger = .low ∧ line.level = false)
    (∀ n : GeiLine, e.val = n.val → (s.levelActive e = true ↔ active (s.geiLine n))) ∧
    (∀ i : SlotId, e.val = 12 + i.val → (s.levelActive e = true ↔ active (s.lineSet i).wake)) ∧
    (∀ i : SlotId, e.val = 18 + i.val → (s.levelActive e = true ↔ active (s.lineSet i).alert)) ∧
    (24 ≤ e.val → s.levelActive e = false)) ∧
  ∀ (s : State) (seq : Byte) (bytes : List Byte), s.ready seq → bytes.length = 8 →
    let set := bytes.foldl (fun n b => n * 256 + b.toNat) 0
    let cleared := fun e : EntryId => set.testBit e.val = true ∧ s.levelActive e = false
    let left := (List.finRange 60).filter fun e =>
      decide (set.testBit e.val = true ∧ s.levelActive e = true)
    (2 ^ 60 ≤ set → exec (.eventClear seq bytes) s = .next (s.answered seq [0x04])) ∧
    (set < 2 ^ 60 → ∃ u : State,
      exec (.eventClear seq bytes) s = .next (u.answered seq
        ((if left = [] then 0x00 else 0x09) :: entrySetBytes left)) ∧
      (∀ e : EntryId, u.entry e =
        if cleared e then { s.entry e with latch := none } else s.entry e) ∧
      (∀ c : ChannelId, u.channel c = { s.channel c with
        pending := (s.channel c).pending.filter fun e => decide (¬ cleared e) }) ∧
      (∀ i : SlotId, u.slot i = { s.slot i with
        holds := (s.slot i).holds - ((List.finRange 60).filter fun e => decide (cleared e ∧
          (s.entry e).enabled = true ∧ (s.entry e).latched = true ∧
          (s.entry e).holdSet.getLsbD i.val = true)).length }) ∧
      u.staging = s.staging ∧ u.wakes = s.wakes ∧ u.outside = s.outside) ∧
    (∀ es : List EntryId, (entrySetBytes es).length = 8 ∧
      ∀ (k j : Nat), k < 8 → j < 8 → ((entrySetBytes es)[k]?.getD 0).getLsbD j =
        decide (8 * (7 - k) + j ∈ es.map Fin.val))

/-- EVENT_POST (R141): one occurrence on entry 54 + n with the code as its detail. INPUT_CONFIG (R21): the
debounce time of one GEI line and nothing else; a running period and the line's entry stay. -/
def Obligations.EventPostAndInputConfig : Prop :=
  ∀ (s : State) (seq b high low : Byte), s.ready seq →
    (∀ h : 1 ≤ b.toNat ∧ b.toNat ≤ 4,
      exec (.eventPost seq [b, high, low]) s =
        .next ((occur ⟨54 + b.toNat, by omega⟩ (some (high ++ low)) s).answered seq [0x00])) ∧
    (¬ (1 ≤ b.toNat ∧ b.toNat ≤ 4) →
      exec (.eventPost seq [b, high, low]) s = .next (s.answered seq [0x04])) ∧
    (∀ h : b.toNat < 12,
      exec (.inputConfig seq [b, low]) s = .next ((s.setBoard { s.board with
        geiDebounce := s.board.geiDebounce.set b.toNat low.toNat h }).answered seq [0x00])) ∧
    (12 ≤ b.toNat → exec (.inputConfig seq [b, low]) s = .next (s.answered seq [0x04]))

/-! ### Notice Channels -/

/-- An IDLE channel with a non-empty pending list composes its next notice (R30, R31, R32); in any other
case nothing is composed. The notice frame and its items, byte for byte (R31, R45, R170, section 10.6). -/
def Obligations.CompositionTakesTheFirstEntries : Prop :=
  ∀ (s : State) (c : ChannelId),
    let ch := s.channel c
    let k := min ch.itemLimit ch.pending.length
    (ch.state ≠ .idle ∨ ch.pending = [] → compose c s = s) ∧
    (ch.state = .idle → ch.pending ≠ [] →
      compose c s = s.setChannel c (ch.composed s.itemOf)) ∧
    (∀ itemOf : EntryId → NoticeItem, ch.composed itemOf = { ch with
      state := .offered
      pending := ch.pending.drop k
      inFlight := ch.pending.take k
      items := (ch.pending.take k).map itemOf
      remaining := ch.pending.length - k
      number := ch.number + 1
      retryCount := 0
      sendWaiting := true
      offerTimer := .waiting }) ∧
    (∀ (e : EntryId) (l : Latch), (s.entry e).latch = some l →
      s.itemOf e = { entry := e, count := l.count, firstTime := l.firstTime, detail := l.detail }) ∧
    ch.noticeFrame c = {
      seq := ch.number
      kind := 0x03
      payload := [(match c with | .priority => 0x01 | .routine => 0x02),
        BitVec.ofNat 8 ch.remaining, BitVec.ofNat 8 ch.items.length] ++
          ch.items.flatMap NoticeItem.bytes } ∧
    (∀ (e : EntryId) (count : Byte) (time : Word) (detail : Option Half),
      NoticeItem.bytes { entry := e, count := count, firstTime := time, detail := detail } =
        [BitVec.ofNat 8 e.val, if detail.isSome then 0x01 else 0x00, count,
          time.extractLsb' 24 8, time.extractLsb' 16 8, time.extractLsb' 8 8, time.extractLsb' 0 8] ++
        (match detail with
          | some d => [d.extractLsb' 8 8, d.extractLsb' 0 8]
          | none => []))

/-- The end of a notice and its return procedure (R33): the timers stop, a waiting sending is withdrawn
(R34), the entries that still belong go back to the front, those routed to the other channel join its
tail. An entry belongs to a channel's list while it is latched, enabled and routed there (R28). -/
def Obligations.ReturnedEntriesGoToTheFront : Prop :=
  (∀ (s : State) (c : ChannelId) (e : EntryId), s.belongsTo c e = true ↔
    (s.entry e).latch.isSome = true ∧ (s.entry e).enabled = true ∧
      (s.entry e).route = (match c with | .priority => .priority | .routine => .routine)) ∧
  ∀ (s : State) (c : ChannelId) (target : ChannelState),
    let ch := s.channel c
    let o := otherChannel c
    let t := endNotice c target s
    let across := ch.inFlight.filter (s.belongsTo o)
    t.channel c = { ch with
      state := target
      pending := ch.inFlight.filter (s.belongsTo c) ++ ch.pending
      inFlight := []
      items := []
      sendWaiting := false
      offerTimer := .stopped
      serviceTimer := none } ∧
    ((s.channel o).state ≠ .idle → t.channel o =
      { s.channel o with pending := (s.channel o).pending ++ across }) ∧
    (across = [] → t.channel o = s.channel o) ∧
    (∀ (e : EntryId) (rest : List EntryId), (s.channel o).state = .idle → (s.channel o).pending = [] →
      1 ≤ (s.channel o).itemLimit → across = e :: rest →
      (t.channel o).state = .offered ∧ (t.channel o).inFlight = [e] ∧
        (t.channel o).pending = rest) ∧
    t.entries = s.entries ∧ t.slots = s.slots ∧ t.staging = s.staging ∧ t.wakes = s.wakes ∧
    t.outside = s.outside

/-- CHANNEL_OPEN (R42). -/
def Obligations.ChannelOpenSetsTheParameters : Prop :=
  ∀ (s : State) (seq limit retries service : Byte), s.ready seq →
    (∀ c : ChannelId, 1 ≤ limit.toNat ∧ limit.toNat ≤ 12 → retries.toNat ≤ 7 →
      ((s.channel c).state = .closed ∨ (s.channel c).state = .stalled ∨
          (s.channel c).state = .idle →
        exec (.channelOpen seq [channelCode c, limit, retries, service]) s =
          .next ((compose c (s.setChannel c { s.channel c with
            state := .idle
            itemLimit := limit.toNat
            retries := retries.toNat
            serviceLimit := service.toNat })).answered seq [0x00])) ∧
      ((s.channel c).state = .offered ∨ (s.channel c).state = .servicing →
        exec (.channelOpen seq [channelCode c, limit, retries, service]) s =
          .next (s.answered seq [0x05]))) ∧
    (∀ b : Byte, (b ≠ 1 ∧ b ≠ 2) ∨ limit.toNat = 0 ∨ 12 < limit.toNat ∨ 7 < retries.toNat →
      exec (.channelOpen seq [b, limit, retries, service]) s = .next (s.answered seq [0x04]))

/-- CHANNEL_CLOSE (R43) and SETTLE (R37, R39). -/
def Obligations.CloseAndSettleEndNotices : Prop :=
  ∀ (s : State) (seq number : Byte), s.ready seq →
    (∀ c : ChannelId,
      let ch := s.channel c
      (ch.state = .offered ∨ ch.state = .servicing →
        exec (.channelClose seq [channelCode c]) s =
          .next ((endNotice c .closed s).answered seq [0x00]) ∧
        exec (.settle seq [channelCode c, number]) s = .next (if ch.number = number
          then (compose c (endNotice c .idle s)).answered seq [0x00]
          else s.answered seq [0x0A])) ∧
      (ch.state = .idle ∨ ch.state = .stalled →
        exec (.channelClose seq [channelCode c]) s =
          .next ((s.setChannel c { ch with state := .closed }).answered seq [0x00]) ∧
        exec (.settle seq [channelCode c, number]) s = .next (s.answered seq [0x0A])) ∧
      (ch.state = .closed →
        exec (.channelClose seq [channelCode c]) s = .next (s.answered seq [0x00]) ∧
        exec (.settle seq [channelCode c, number]) s = .next (s.answered seq [0x0B]))) ∧
    (∀ b : Byte, b ≠ 1 → b ≠ 2 →
      exec (.channelClose seq [b]) s = .next (s.answered seq [0x04]) ∧
      exec (.settle seq [b, number]) s = .next (s.answered seq [0x04]))

/-- ACCEPT (R37, R38). -/
def Obligations.AcceptTakesANoticeIntoService : Prop :=
  ∀ (s : State) (seq number : Byte), s.ready seq →
    (∀ c : ChannelId,
      let ch := s.channel c
      (ch.state = .offered → ch.number = number →
        exec (.accept seq [channelCode c, number]) s = .next ((s.setChannel c { ch with
          state := .servicing
          offerTimer := .stopped
          sendWaiting := false
          serviceTimer := if ch.serviceLimit = 0 then none
            else some (ch.serviceLimit * 100) }).answered seq [0x00])) ∧
      (ch.state = .servicing → ch.number = number →
        exec (.accept seq [channelCode c, number]) s = .next (s.answered seq [0x00])) ∧
      (ch.state = .offered ∨ ch.state = .servicing → ch.number ≠ number →
        exec (.accept seq [channelCode c, number]) s = .next (s.answered seq [0x0A])) ∧
      (ch.state = .idle ∨ ch.state = .stalled →
        exec (.accept seq [channelCode c, number]) s = .next (s.answered seq [0x0A])) ∧
      (ch.state = .closed →
        exec (.accept seq [channelCode c, number]) s = .next (s.answered seq [0x0B]))) ∧
    (∀ b : Byte, b ≠ 1 → b ≠ 2 →
      exec (.accept seq [b, number]) s = .next (s.answered seq [0x04]))

/-- The channels' timers (R35, R36, R40): a re-sending while retries are left, else a stall; an overrun
that settles the notice. A row whose timer does not run is without effect (log 2). -/
def Obligations.ChannelTimersRunOut : Prop :=
  ∀ (s : State) (c : ChannelId), s.phase = .running →
    let ch := s.channel c
    let up := fun n : Half => if n = 0xFFFF then 0xFFFF else n + 1
    (∀ left : Nat, ch.state = .offered → ch.offerTimer = .running left → ch.retryCount < ch.retries →
      exec (.offerTimeout c) s = .next (s.setChannel c { ch with
        retryCount := ch.retryCount + 1
        sendWaiting := true
        offerTimer := .waiting }).concluded) ∧
    (∀ left : Nat, ch.state = .offered → ch.offerTimer = .running left → ch.retries ≤ ch.retryCount →
      exec (.offerTimeout c) s = .next (State.concluded
        ((endNotice c .stalled s).setChannel c { (endNotice c .stalled s).channel c with
          stallCount := up ch.stallCount }))) ∧
    (ch.state ≠ .offered ∨ ch.offerTimer = .stopped ∨ ch.offerTimer = .waiting →
      exec (.offerTimeout c) s = .next s.concluded) ∧
    (∀ left : Nat, ch.state = .servicing → ch.serviceTimer = some left →
      exec (.serviceExpiry c) s = .next (State.concluded (compose c (endNotice c .idle
        (s.setChannel c { ch with overrunCount := up ch.overrunCount }))))) ∧
    (ch.state ≠ .servicing ∨ ch.serviceTimer = none →
      exec (.serviceExpiry c) s = .next s.concluded)

/-! ### Slots -/

/-- A transition of a slot (R53, R54, R56, R64, R96, R97, R99): its record, what the Staging Unit does with
it, the occurrence of its transition entry, and nothing else. In the Staging Unit the slot leaves the start
queue with QUEUED (R114), the stagger gap starts at the end of a power-up (R116), a listed slot leaves the
shed list at RUNNING, FAULTED, or OFF with a cause other than SHED (R72, R124), and the settle of the slot
under restore brings the next one (R129). Leaving the shed list (R124): those behind close up, and a list that
becomes empty sets the shed level to 0 and ends a restore. The states with the rail on (R51), those of a
power-up (R115), and the codes of R55. -/
def Obligations.TransitionsMoveTheRecord : Prop :=
  (∀ (s : State) (i : SlotId) (target : LifeState) (cause : Cause) (step : Option StepTimer),
    let x := s.slot i
    let t := enter i target cause step s
    let u := s.staging
    let reported := target = .off ∨ target = .running ∨ target = .asleep ∨ target = .faulted
    let rest := u.shedList.filter fun p => decide (p.slot ≠ i)
    let leaves := i ∈ u.shedList.map ShedPlace.slot ∧
      (target = .running ∨ target = .faulted ∨ (target = .off ∧ cause ≠ .shed))
    let record : Slot := { x with
      state := target
      last := some { cause := cause, time := s.uptime }
      step := step
      offTimer := if x.state.railOn = true ∧ target.railOn = false then 0 else x.offTimer
      deferredWake := none
      pendingSleep := none
      verdictTimer := none
      heartbeat := if target = .running ∧ x.config.supervisionInterval ≠ 0
        then some (x.config.supervisionInterval * 100) else none
      expiredOnce := false
      idleTimer := if target = .running ∧ x.config.idleAction = .sleep
        then some (x.config.idleLimit * 1000) else none }
    let staging : Staging := { u with
      startQueue := if x.state = .queued
        then u.startQueue.filter fun p => decide (p.slot ≠ i) else u.startQueue
      staggerTimer :=
        if (x.state = .powering ∨ x.state = .releasing) ∧ target ≠ .powering ∧ target ≠ .releasing
        then (if u.staggerGap = 0 then none else some (u.staggerGap * 10)) else u.staggerTimer
      shedList := if leaves then rest else u.shedList
      shedLevel := if leaves ∧ rest = [] then 0 else u.shedLevel
      restore :=
        if leaves ∧ rest = [] then .clear
        else if u.restore = .watching i ∧ (target = .running ∨ target = .off ∨ target = .faulted)
        then .between else u.restore }
    let moved := (s.setSlot i record).setStaging staging
    (reported → t = occur ⟨36 + i.val, by omega⟩ (some (target.code ++ cause.code)) moved) ∧
    (¬ reported → t = moved) ∧
    t.staging = staging ∧
    t.slot i = { record with holds := (t.slot i).holds } ∧
    (∀ j : SlotId, j ≠ i → t.slot j = { s.slot j with holds := (t.slot j).holds }) ∧
    (reported →
      (t.entry ⟨36 + i.val, by omega⟩).latch.bind Latch.detail = some (target.code ++ cause.code)) ∧
    (¬ reported → t.entries = s.entries ∧ t.wakes = s.wakes ∧ t.priority = s.priority ∧
      t.routine = s.routine ∧ ∀ j : SlotId, (t.slot j).holds = (s.slot j).holds) ∧
    (∀ e : EntryId, e ≠ ⟨36 + i.val, by omega⟩ → t.entry e = s.entry e) ∧
    t.outside = s.outside) ∧
  (∀ (s : State) (i : SlotId),
    let u := s.staging
    let rest := u.shedList.filter fun p => decide (p.slot ≠ i)
    (i ∉ u.shedList.map ShedPlace.slot → unlist i s = s) ∧
    (i ∈ u.shedList.map ShedPlace.slot → rest ≠ [] →
      unlist i s = s.setStaging { u with shedList := rest }) ∧
    (i ∈ u.shedList.map ShedPlace.slot → rest = [] →
      unlist i s = s.setStaging { u with shedList := [], shedLevel := 0, restore := .clear })) ∧
  [LifeState.off, .queued, .powering, .releasing, .running, .resetting, .sleepWait, .entering, .asleep,
      .waking, .stopping, .faulted].map LifeState.code = [0, 1, 2, 3, 4, 5, 6, 7, 8, 9, 10, 11] ∧
  (∀ l : LifeState, (l.railOn = true ↔ l ≠ .off ∧ l ≠ .queued ∧ l ≠ .faulted) ∧
    (l.inPowerUp = true ↔ l = .powering ∨ l = .releasing)) ∧
  [Cause.host, .button, .resume, .recovery, .shed, .shedRestore, .wakeEvent, .wakeFromOff, .sleepLine,
      .idle, .railLoss, .pgTimeout, .pgLost, .entryTimeout, .wakeTimeout, .stopTimeout, .removed,
      .inserted, .override, .holdTimeout, .denied, .overtaken, .supervisionFault, .autostart].map
    Cause.code = (List.range 24).map fun n => BitVec.ofNat 8 (n + 1)

/-- The part drives a slot's lines by the slot's state (R51), and BSEL by its fallback flag (R106). -/
def Obligations.OutputLinesFollowTheSlot : Prop :=
  ∀ (s : State) (i : SlotId), s.phase = .running →
    let x := s.slot i
    let d := s.driven i
    (d.railEn = true ↔ x.state ≠ .off ∧ x.state ≠ .queued ∧ x.state ≠ .faulted) ∧
    (d.railLow = true ↔ x.state = .asleep) ∧
    (d.mrst = true ↔ x.state = .off ∨ x.state = .queued ∨ x.state = .powering ∨
      x.state = .releasing ∨ x.state = .resetting ∨ x.state = .faulted) ∧
    (d.slp = true ↔ x.state = .entering ∨ x.state = .asleep ∨
      (x.state = .waking ∧ x.step.map StepTimer.kind ≠ some .wake)) ∧
    (d.stp = true ↔ x.state = .stopping) ∧
    d.bsel = x.fallback

/-- The entries that start a step's limit and test a line at once (R61, R63, R66, R86, R89), and a granted
power-up claim (R60, R114). The cause of each queue origin (R60). -/
def Obligations.StepsTestTheirLineAtEntry : Prop :=
  [QueueOrigin.host, .button, .resume, .recovery, .shedRestore, .wakeFromOff, .autostart].map
      QueueOrigin.cause =
    [Cause.host, .button, .resume, .recovery, .shedRestore, .wakeFromOff, .autostart] ∧
  ∀ (s : State) (i : SlotId) (cause : Cause),
    let k := (s.slot i).config
    let l := s.lineSet i
    let powering := enter i .powering cause (some { kind := .powerUp, left := k.powerUpLimit * 10 }) s
    let stopping := enter i .stopping cause (some { kind := .stop, left := k.stopLimit * 1000 }) s
    let entering :=
      enter i .entering cause (some { kind := .sleepEntry, left := k.sleepEntryLimit * 100 }) s
    let waking := enter i .waking cause (some { kind := .powerUp, left := k.powerUpLimit * 10 }) s
    let second := waking.setSlot i { waking.slot i with
      step := some { kind := .wake, left := k.wakeLimit * 100 } }
    beginPowering i cause s = (if l.pgood.level
      then enter i .releasing cause (some { kind := .resetHold, left := k.resetHold }) powering
      else powering) ∧
    beginStopping i cause s =
      (if l.rdy.level then enter i .off cause none stopping else stopping) ∧
    beginEntering i cause s =
      (if l.rdy.level then enter i .asleep cause none entering else entering) ∧
    beginWaking i cause s = (if l.pgood.level
      then (if l.rdy.level then second else enter i .running cause none second)
      else waking) ∧
    (∀ o : QueueOrigin, s.lifeOf i ≠ .queued →
      enqueue i o s = (enter i .queued o.cause none s).setStaging
        { (enter i .queued o.cause none s).staging with
          startQueue := s.staging.startQueue ++ [{ slot := i, origin := o }] })

/-- SLOT_ON by the slot's state and condition (R62, R72). -/
def Obligations.SlotOnAsksForPowerUp : Prop :=
  ∀ (s : State) (seq b : Byte), s.ready seq →
    (∀ i : SlotId, b.toNat = i.val + 1 →
      (s.lifeOf i = .off → (s.lineSet i).present.level = false →
        exec (.slotOn seq [b]) s = .next (s.answered seq [0x07])) ∧
      (s.lifeOf i = .off → (s.lineSet i).present.level = true → s.staging.rail = .lost →
        exec (.slotOn seq [b]) s = .next (s.answered seq [0x08])) ∧
      (s.lifeOf i = .off → (s.lineSet i).present.level = true → s.staging.rail = .good →
        exec (.slotOn seq [b]) s = .next ((enqueue i .host ((unlist i s).setSlot i
          { s.slot i with override := false })).answered seq [0x01])) ∧
      (s.lifeOf i = .queued → exec (.slotOn seq [b]) s = .next ((unlist i s).answered seq [0x00])) ∧
      (s.lifeOf i ≠ .off → s.lifeOf i ≠ .queued →
        exec (.slotOn seq [b]) s = .next (s.answered seq [0x06]))) ∧
    (b.toNat = 0 ∨ 6 < b.toNat → exec (.slotOn seq [b]) s = .next (s.answered seq [0x04]))

/-- SLOT_STOP (R66) and SLOT_CUT (R67) by the slot's state; carried out, they take the slot out of the shed
list (R72). -/
def Obligations.StopAndCutTakeASlotDown : Prop :=
  ∀ (s : State) (seq b : Byte), s.ready seq →
    (∀ i : SlotId, b.toNat = i.val + 1 →
      (s.lifeOf i = .running ∨ s.lifeOf i = .sleepWait →
        exec (.slotStop seq [b]) s =
          .next ((unlist i (beginStopping i .host s)).answered seq [0x00])) ∧
      (s.lifeOf i = .asleep ∨ s.lifeOf i = .queued →
        exec (.slotStop seq [b]) s =
          .next ((unlist i (enter i .off .host none s)).answered seq [0x00])) ∧
      (s.lifeOf i = .off →
        exec (.slotStop seq [b]) s = .next ((unlist i s).answered seq [0x00]) ∧
        exec (.slotCut seq [b]) s = .next ((unlist i s).answered seq [0x00])) ∧
      (s.lifeOf i ∈ [.powering, .releasing, .resetting, .entering, .waking, .stopping] →
        exec (.slotStop seq [b]) s = .next (s.answered seq [0x05])) ∧
      (s.lifeOf i = .faulted →
        exec (.slotStop seq [b]) s = .next (s.answered seq [0x06]) ∧
        exec (.slotCut seq [b]) s = .next (s.answered seq [0x06])) ∧
      (s.lifeOf i ≠ .off → s.lifeOf i ≠ .faulted →
        exec (.slotCut seq [b]) s =
          .next ((unlist i (enter i .off .host none s)).answered seq [0x00]))) ∧
    (b.toNat = 0 ∨ 6 < b.toNat →
      exec (.slotStop seq [b]) s = .next (s.answered seq [0x04]) ∧
      exec (.slotCut seq [b]) s = .next (s.answered seq [0x04]))

/-- SLOT_RESET (R65) and SLOT_FAULT_CLEAR (R69) by the slot's state. -/
def Obligations.ResetAndFaultClear : Prop :=
  ∀ (s : State) (seq b : Byte), s.ready seq →
    (∀ i : SlotId, b.toNat = i.val + 1 →
      (s.lifeOf i = .running →
        exec (.slotReset seq [b]) s = .next ((unlist i (enter i .resetting .host
          (some { kind := .resetHold, left := (s.slot i).config.resetHold }) s)).answered seq
          [0x00])) ∧
      (s.lifeOf i ∈ [.powering, .releasing, .resetting, .sleepWait, .entering, .waking, .stopping] →
        exec (.slotReset seq [b]) s = .next (s.answered seq [0x05])) ∧
      (s.lifeOf i ∈ [.off, .queued, .asleep, .faulted] →
        exec (.slotReset seq [b]) s = .next (s.answered seq [0x06])) ∧
      (s.lifeOf i = .faulted →
        exec (.slotFaultClear seq [b]) s =
          .next ((unlist i (enter i .off .host none s)).answered seq [0x00])) ∧
      (s.lifeOf i ≠ .faulted →
        exec (.slotFaultClear seq [b]) s = .next (s.answered seq [0x06]))) ∧
    (b.toNat = 0 ∨ 6 < b.toNat →
      exec (.slotReset seq [b]) s = .next (s.answered seq [0x04]) ∧
      exec (.slotFaultClear seq [b]) s = .next (s.answered seq [0x04]))

/-- SLOT_CONFIG (R58, R59, R96, R99): all eighteen fields in one step when every value is in range, with
the effects on the idle monitor and on supervision; nothing otherwise. The configuration block, byte for byte
(section 10.4). -/
def Obligations.SlotConfigSetsAllFields : Prop :=
  ∀ (s : State) (seq b : Byte), s.ready seq →
    (∀ (i : SlotId) (c : SlotConfig), b.toNat = i.val + 1 → c.inRange →
      let x := s.slot i
      exec (.slotConfig seq (b :: c.bytes)) s = .next ((s.setSlot i { x with
        config := c
        idleTimer :=
          if x.config.idleAction = .none ∧ c.idleAction = .sleep ∧ x.state = .running
          then some (c.idleLimit * 1000)
          else if x.config.idleAction = .sleep ∧ c.idleAction = .none then none else x.idleTimer
        heartbeat :=
          if c.supervisionInterval = 0 then none
          else if x.state = .running ∧ x.heartbeat = none
          then some (c.supervisionInterval * 100) else x.heartbeat
        expiredOnce :=
          if c.supervisionInterval = 0 then false
          else if x.state = .running ∧ x.heartbeat = none then false
          else x.expiredOnce }).answered seq [0x00])) ∧
    (∀ block : List Byte, block.length = 19 →
      (b.toNat = 0 ∨ 6 < b.toNat) ∨ (∀ c : SlotConfig, c.inRange → block ≠ c.bytes) →
      exec (.slotConfig seq (b :: block)) s = .next (s.answered seq [0x04])) ∧
    (∀ c : SlotConfig,
      let one := fun n : Nat => BitVec.ofNat 8 n
      c.bytes = [one c.powerUpLimit, one c.resetHold, one c.sleepEntryLimit, one c.wakeLimit,
        one c.stopLimit, one c.offTime, if c.intercept then 0x01 else 0x00, one c.verdictLimit,
        (match c.defaultVerdict with | .deny => 0x00 | .grant => 0x01), one c.holdWaitLimit,
        (match c.idleAction with | .none => 0x00 | .sleep => 0x01),
        one (c.idleLimit / 256), one c.idleLimit, one c.supervisionInterval, one c.overrideTime,
        (match c.resumePolicy with | .off => 0x00 | .restore => 0x01 | .on => 0x02),
        if c.wakeFromOff then 0x01 else 0x00, one c.shedRank,
        (match c.shedAction with | .sleep => 0x00 | .stop => 0x01)])

/-- The limits of the steps, by the state and the step they end (R61, R63, R65, R66, R86, R89); a row whose
step does not run is without effect (log 2). -/
def Obligations.StepLimitsRunOut : Prop :=
  ∀ (s : State) (i : SlotId), s.phase = .running →
    let x := s.slot i
    let second := x.step.map StepTimer.kind = some .wake
    exec (.powerupLimitExpiry i) s = .next (State.concluded
      (if x.state = .powering then enter i .faulted .pgTimeout none s else s)) ∧
    (∀ t : Transition, x.last = some t →
      exec (.resetHoldEnd i) s = .next (State.concluded
        (if x.state = .releasing then enter i .running t.cause none s else s))) ∧
    exec (.resettingEnd i) s = .next (State.concluded
      (if x.state = .resetting then enter i .running .host none s else s)) ∧
    exec (.stopLimitExpiry i) s = .next (State.concluded
      (if x.state = .stopping then enter i .off .stopTimeout none s else s)) ∧
    exec (.sleepEntryLimitExpiry i) s = .next (State.concluded
      (if x.state = .entering then enter i .running .entryTimeout none s else s)) ∧
    exec (.wakingPowerupLimitExpiry i) s = .next (State.concluded
      (if x.state = .waking ∧ ¬ second then enter i .faulted .pgTimeout none s else s)) ∧
    exec (.wakeLimitExpiry i) s = .next (State.concluded
      (if x.state = .waking ∧ second then enter i .faulted .wakeTimeout none s else s))

/-- The edges of PGOOD and RDY by the slot's state (R52, R61, R66, R68, R86, R89); a row that names the level
the line has already is no edge (log 3). -/
def Obligations.SupplyAndReadyEdges : Prop :=
  ∀ (s : State) (i : SlotId), s.phase = .running →
    let x := s.slot i
    let l := s.lineSet i
    let second := x.step.map StepTimer.kind = some .wake
    let high : Line := { pin := true, level := true, period := none }
    let low : Line := { pin := false, level := false, period := none }
    let pgHigh := s.setLineSet i { l with pgood := high }
    let pgLow := s.setLineSet i { l with pgood := low }
    let rdyHigh := s.setLineSet i { l with rdy := high }
    let rdyLow := s.setLineSet i { l with rdy := low }
    (l.pgood.level = true → exec (.pgoodAssert i) s = .next pgHigh.concluded) ∧
    (l.pgood.level = false → ∀ t : Transition, x.last = some t →
      (x.state = .powering → exec (.pgoodAssert i) s = .next (State.concluded (enter i .releasing
        t.cause (some { kind := .resetHold, left := x.config.resetHold }) pgHigh))) ∧
      (x.state = .waking → ¬ second → exec (.pgoodAssert i) s = .next (State.concluded
        (let waiting := pgHigh.setSlot i { x with
            step := some { kind := .wake, left := x.config.wakeLimit * 100 } }
          if l.rdy.level then waiting else enter i .running t.cause none waiting)))) ∧
    (l.pgood.level = false → x.state ≠ .powering → (x.state = .waking → second) →
      exec (.pgoodAssert i) s = .next pgHigh.concluded) ∧
    exec (.pgLost i) s = .next (State.concluded
      (if l.pgood.level = true ∧ (x.state ∈ [.releasing, .running, .resetting, .sleepWait, .entering,
          .stopping] ∨ (x.state = .waking ∧ second))
        then enter i .faulted .pgLost none pgLow else pgLow)) ∧
    (l.rdy.level = true ∨ (x.state ≠ .stopping ∧ x.state ≠ .entering) →
      exec (.rdyAssert i) s = .next rdyHigh.concluded) ∧
    (l.rdy.level = false → ∀ t : Transition, x.last = some t →
      (x.state = .stopping →
        exec (.rdyAssert i) s = .next (State.concluded (enter i .off t.cause none rdyHigh))) ∧
      (x.state = .entering → x.deferredWake = none →
        exec (.rdyAssert i) s = .next (State.concluded (enter i .asleep t.cause none rdyHigh))) ∧
      (∀ w : Cause, x.state = .entering → x.deferredWake = some w →
        exec (.rdyAssert i) s = .next (State.concluded (beginWaking i w rdyHigh)))) ∧
    (∀ t : Transition, x.last = some t → exec (.rdyRelease i) s = .next (State.concluded
      (if l.rdy.level = true ∧ x.state = .waking ∧ second
        then enter i .running t.cause none rdyLow else rdyLow)))

/-- Insertion and removal (R56, R70, R71, R124): the present field, the last cause, the transition entry, and
OFF from every other state; a row that names the level the line has already is no edge (log 3). -/
def Obligations.PresenceIsRecorded : Prop :=
  ∀ (s : State) (i : SlotId), s.phase = .running →
    let l := s.lineSet i
    let taken := fun level : Bool =>
      s.setLineSet i { l with present := { pin := level, level := level, period := none } }
    let noted := fun (cause : Cause) (u : State) =>
      u.setSlot i { s.slot i with last := some { cause := cause, time := s.uptime } }
    (l.present.level = false → exec (.insertion i) s = .next (State.concluded
      (occur ⟨36 + i.val, by omega⟩ (some ((s.lifeOf i).code ++ (0x12 : Byte)))
        (noted .inserted (taken true))))) ∧
    (l.present.level = true → exec (.insertion i) s = .next (taken true).concluded) ∧
    (l.present.level = true → s.lifeOf i = .off → exec (.removal i) s = .next (State.concluded
      (occur ⟨36 + i.val, by omega⟩ (some ((0x00 : Byte) ++ (0x11 : Byte)))
        (noted .removed (unlist i (taken false)))))) ∧
    (l.present.level = true → s.lifeOf i ≠ .off → exec (.removal i) s = .next (State.concluded
      (enter i .off .removed none (taken false)))) ∧
    (l.present.level = false → exec (.removal i) s = .next (taken false).concluded)

/-! ### Sleep, wake and holds -/

/-- Sleep requests by their source and the slot's state (R76, R77, R78, R94, R96), and the restart of the
idle monitor. A rise that a row names is always an edge (log 3); an IDLE_EXPIRY row whose idle timer does not
run is without effect (log 2). The cause of each origin (R76): those of the forced ones stand in their clauses,
HOST here and SHED in HeatShedsAndCoolRestores. -/
def Obligations.SleepRequestsByOrigin : Prop :=
  [SleepOrigin.line, .idle, .host].map SleepOrigin.cause = [Cause.sleepLine, .idle, .host] ∧
  (∀ (s : State) (i : SlotId) (o : SleepOrigin),
    let x := s.slot i
    let wanted := x.config.intercept = true ∧ o ≠ .host
    (¬ wanted → x.holds = 0 → requestSleep i o s = beginEntering i o.cause s) ∧
    (wanted ∨ x.holds ≠ 0 →
      let waiting := enter i .sleepWait o.cause (if x.config.holdWaitLimit = 0 then none
        else some { kind := .holdWait, left := x.config.holdWaitLimit * 1000 }) s
      (wanted → requestSleep i o s = occur ⟨24 + i.val, by omega⟩ (some ((0x00 : Byte) ++ o.code))
        (waiting.setSlot i { waiting.slot i with
          pendingSleep := some { origin := o, verdictAwaited := true }
          verdictTimer := some (x.config.verdictLimit * 1000) })) ∧
      (¬ wanted → requestSleep i o s = waiting.setSlot i { waiting.slot i with
        pendingSleep := some { origin := o, verdictAwaited := false }
        verdictTimer := none }))) ∧
  (∀ (s : State) (i : SlotId), s.phase = .running →
    let x := s.slot i
    let high : Line := { pin := true, level := true, period := none }
    let slpReq := s.setLineSet i { s.lineSet i with slpReq := high }
    let act := s.setLineSet i { s.lineSet i with act := high }
    exec (.slpreqRise i) s = .next (State.concluded
      (if x.state = .running then requestSleep i .line slpReq else slpReq)) ∧
    exec (.idleExpiry i) s = .next (State.concluded
      (if x.state = .running ∧ x.idleTimer.isSome = true
        then requestSleep i .idle (s.setSlot i { x with idleTimer := none }) else s)) ∧
    exec (.actRise i) s = .next (State.concluded
      (if x.state = .running ∧ x.idleTimer.isSome = true
        then act.setSlot i { x with idleTimer := some (x.config.idleLimit * 1000) } else act))) ∧
  (∀ (s : State) (seq b mode : Byte), s.ready seq →
    (∀ i : SlotId, b.toNat = i.val + 1 →
      (s.lifeOf i = .running →
        exec (.slotSleep seq [b, 0]) s =
          .next ((unlist i (requestSleep i .host s)).answered seq [0x00])) ∧
      (s.lifeOf i = .running ∨ s.lifeOf i = .sleepWait →
        exec (.slotSleep seq [b, 1]) s =
          .next ((unlist i (beginEntering i .host s)).answered seq [0x00])) ∧
      (s.lifeOf i = .sleepWait → exec (.slotSleep seq [b, 0]) s = .next (s.answered seq [0x05])) ∧
      (mode.toNat ≤ 1 → s.lifeOf i = .asleep →
        exec (.slotSleep seq [b, mode]) s = .next ((unlist i s).answered seq [0x00])) ∧
      (mode.toNat ≤ 1 →
        s.lifeOf i ∈ [.powering, .releasing, .resetting, .entering, .waking, .stopping] →
        exec (.slotSleep seq [b, mode]) s = .next (s.answered seq [0x05])) ∧
      (mode.toNat ≤ 1 → s.lifeOf i ∈ [.off, .queued, .faulted] →
        exec (.slotSleep seq [b, mode]) s = .next (s.answered seq [0x06]))) ∧
    (b.toNat = 0 ∨ 6 < b.toNat ∨ 1 < mode.toNat →
      exec (.slotSleep seq [b, mode]) s = .next (s.answered seq [0x04])))

/-- Wake requests by origin, each with its cause, and the slot's state, subject to the shed list (R87, R90,
R92, R93), and SLOT_WAKE (R95). -/
def Obligations.WakeRequestsByState : Prop :=
  [WakeOrigin.wakeEvent, .wakeLine, .host, .button, .shedRestore].map WakeOrigin.cause =
    [Cause.wakeEvent, .wakeEvent, .host, .button, .shedRestore] ∧
  (∀ (s : State) (i : SlotId) (o : WakeOrigin),
    let x := s.slot i
    let event := o = .wakeEvent ∨ o = .wakeLine
    (event → i ∈ s.staging.shedList.map ShedPlace.slot → wake i o s = s) ∧
    (¬ event ∨ i ∉ s.staging.shedList.map ShedPlace.slot →
      (x.state ∈ [.queued, .powering, .releasing, .running, .resetting, .waking, .stopping, .faulted] →
        wake i o s = s) ∧
      (x.state = .sleepWait → wake i o s = enter i .running .overtaken none s) ∧
      (x.state = .entering → x.deferredWake = none →
        wake i o s = s.setSlot i { x with deferredWake := some o.cause }) ∧
      (x.state = .entering → x.deferredWake.isSome = true → wake i o s = s) ∧
      (x.state = .asleep → wake i o s = beginWaking i o.cause s) ∧
      (x.state = .off → wake i o s =
        if event ∧ x.config.wakeFromOff = true ∧ x.override = false ∧ s.staging.rail = .good ∧
            (s.lineSet i).present.level = true
        then enqueue i .wakeFromOff s else s))) ∧
  (∀ (s : State) (seq b : Byte), s.ready seq →
    (∀ i : SlotId, b.toNat = i.val + 1 →
      (s.lifeOf i ≠ .off → s.lifeOf i ≠ .faulted →
        exec (.slotWake seq [b]) s = .next ((unlist i (wake i .host s)).answered seq [0x00])) ∧
      (s.lifeOf i = .off ∨ s.lifeOf i = .faulted →
        exec (.slotWake seq [b]) s = .next (s.answered seq [0x06]))) ∧
    (b.toNat = 0 ∨ 6 < b.toNat → exec (.slotWake seq [b]) s = .next (s.answered seq [0x04])))

/-- SLOT_VERDICT (R82), the verdict's expiry (R83) and the hold wait's (R84); a row whose timer does not
run is without effect (log 2). -/
def Obligations.VerdictsAndWaitsEnd : Prop :=
  (∀ (s : State) (i : SlotId) (p : PendingSleep),
    let x := s.slot i
    let granted := s.setSlot i { x with
      pendingSleep := some { p with verdictAwaited := false }
      verdictTimer := none }
    let denied := enter i .running .denied none s
    x.state = .sleepWait → x.pendingSleep = some p →
      (∀ (seq b : Byte), s.ready seq → b.toNat = i.val + 1 →
        (p.verdictAwaited = true →
          exec (.slotVerdict seq [b, 1]) s = .next ((unlist i granted).answered seq [0x00]) ∧
          exec (.slotVerdict seq [b, 0]) s = .next ((unlist i denied).answered seq [0x00])) ∧
        (∀ v : Byte, v.toNat ≤ 1 → p.verdictAwaited = false →
          exec (.slotVerdict seq [b, v]) s = .next (s.answered seq [0x06]))) ∧
      (s.phase = .running → p.verdictAwaited = true → x.verdictTimer.isSome = true →
        exec (.verdictExpiry i) s = .next (State.concluded
          (if x.config.defaultVerdict = .grant then granted else denied))) ∧
      (s.phase = .running → p.verdictAwaited = false ∨ x.verdictTimer = none →
        exec (.verdictExpiry i) s = .next s.concluded)) ∧
  (∀ (s : State) (i : SlotId), s.phase = .running →
    let x := s.slot i
    ((x.state ≠ .sleepWait ∨ x.pendingSleep = none) →
      exec (.verdictExpiry i) s = .next s.concluded) ∧
    (x.state = .sleepWait → x.step.isSome = true → x.holds ≠ 0 →
      exec (.holdWaitExpiry i) s =
        .next (State.concluded (enter i .running .holdTimeout none s))) ∧
    (x.state = .sleepWait → x.step.isSome = true → x.holds = 0 →
      exec (.holdWaitExpiry i) s = .next (State.concluded (s.setSlot i { x with step := none }))) ∧
    (x.state ≠ .sleepWait ∨ x.step = none → exec (.holdWaitExpiry i) s = .next s.concluded)) ∧
  (∀ (s : State) (seq b v : Byte), s.ready seq →
    (∀ i : SlotId, b.toNat = i.val + 1 → v.toNat ≤ 1 → s.lifeOf i ≠ .sleepWait →
      exec (.slotVerdict seq [b, v]) s = .next (s.answered seq [0x06])) ∧
    (b.toNat = 0 ∨ 6 < b.toNat ∨ 1 < v.toNat →
      exec (.slotVerdict seq [b, v]) s = .next (s.answered seq [0x04])))

/-- SLOT_HOLD and SLOT_UNHOLD (R80), in every slot state. The sleep that an UNHOLD of the last hold releases
(R81) follows as part of the request: the answered state holds it. -/
def Obligations.HostHoldsAreCounted : Prop :=
  ∀ (s : State) (seq b : Byte), s.ready seq →
    (∀ i : SlotId, b.toNat = i.val + 1 →
      let x := s.slot i
      let lowered := s.setSlot i { x with hostHolds := x.hostHolds - 1, holds := x.holds - 1 }
      (x.hostHolds < 15 → exec (.slotHold seq [b]) s = .next ((s.setSlot i { x with
        hostHolds := x.hostHolds + 1, holds := x.holds + 1 }).answered seq [0x00])) ∧
      (15 ≤ x.hostHolds → exec (.slotHold seq [b]) s = .next (s.answered seq [0x04])) ∧
      (0 < x.hostHolds → exec (.slotUnhold seq [b]) s = .next (lowered.answered seq [0x00])) ∧
      (x.hostHolds = 0 → exec (.slotUnhold seq [b]) s = .next (s.answered seq [0x06])) ∧
      (∀ p : PendingSleep, 0 < x.hostHolds → x.holds = 1 → x.state = .sleepWait →
        x.pendingSleep = some p → p.verdictAwaited = false →
        releaseSleeps lowered = beginEntering i p.origin.cause lowered ∧
        finish lowered = releaseHead (drain 1000 (beginEntering i p.origin.cause lowered)) ∧
        exec (.slotUnhold seq [b]) s = .next
          ((releaseHead (drain 1000 (beginEntering i p.origin.cause lowered))).replied seq [0x00]))) ∧
    (b.toNat = 0 ∨ 6 < b.toNat →
      exec (.slotHold seq [b]) s = .next (s.answered seq [0x04]) ∧
      exec (.slotUnhold seq [b]) s = .next (s.answered seq [0x04])) ∧
    (∀ (u : State) (reply : List Byte), u.answered seq reply = (finish u).replied seq reply)

/-! ### Supervision, recovery and override -/

/-- Heartbeats (R100), SLOT_KICK (R101) and the expiries of the heartbeat timer (R102, R103, R104); a row
whose timer does not run is without effect (log 2). -/
def Obligations.HeartbeatsAndTheirExpiry : Prop :=
  (∀ (s : State) (i : SlotId), s.phase = .running →
    let x := s.slot i
    let interval := x.config.supervisionInterval * 100
    let hbeat := s.setLineSet i { s.lineSet i with
      hbeat := { pin := true, level := true, period := none } }
    let watched := x.state = .running ∧ x.heartbeat.isSome = true
    exec (.hbeatRise i) s = .next (State.concluded (if watched
      then hbeat.setSlot i { x with heartbeat := some interval, expiredOnce := false } else hbeat)) ∧
    (¬ watched → exec (.heartbeatExpiry i) s = .next s.concluded) ∧
    (watched → x.expiredOnce = false →
      let told := occur ⟨30 + i.val, by omega⟩ none s
      exec (.heartbeatExpiry i) s = .next (State.concluded (told.setSlot i { told.slot i with
        heartbeat := some interval, expiredOnce := true }))) ∧
    (watched → x.expiredOnce = true → x.fallback = false →
      exec (.heartbeatExpiry i) s = .next (State.concluded (enqueue i .recovery (s.setSlot i { x with
        fallback := true
        recoveryCount := if x.recoveryCount < 15 then x.recoveryCount + 1 else 15 })))) ∧
    (watched → x.expiredOnce = true → x.fallback = true →
      exec (.heartbeatExpiry i) s =
        .next (State.concluded (enter i .faulted .supervisionFault none s)))) ∧
  (∀ (s : State) (seq b : Byte), s.ready seq →
    (∀ i : SlotId, b.toNat = i.val + 1 →
      let x := s.slot i
      (x.state = .running → x.config.supervisionInterval ≠ 0 →
        exec (.slotKick seq [b]) s = .next ((s.setSlot i { x with
          heartbeat := some (x.config.supervisionInterval * 100)
          expiredOnce := false }).answered seq [0x00])) ∧
      (x.state = .running → x.config.supervisionInterval = 0 →
        exec (.slotKick seq [b]) s = .next (s.answered seq [0x00])) ∧
      (x.state ≠ .running → exec (.slotKick seq [b]) s = .next (s.answered seq [0x06]))) ∧
    (b.toNat = 0 ∨ 6 < b.toNat → exec (.slotKick seq [b]) s = .next (s.answered seq [0x04])))

/-- SLOT_RECOVERY_CLEAR (R107), in every slot state: the fallback flag, with it BSEL, and with scope ALL the
recovery count; no state, no timer, no list. -/
def Obligations.RecoveryClearReleasesBsel : Prop :=
  ∀ (s : State) (seq b : Byte), s.ready seq →
    (∀ i : SlotId, b.toNat = i.val + 1 →
      let flag := s.setSlot i { s.slot i with fallback := false }
      let all := s.setSlot i { s.slot i with fallback := false, recoveryCount := 0 }
      exec (.slotRecoveryClear seq [b, 0]) s = .next (flag.answered seq [0x00]) ∧
      exec (.slotRecoveryClear seq [b, 1]) s = .next (all.answered seq [0x00]) ∧
      (flag.driven i).bsel = false ∧ (all.driven i).bsel = false ∧
      (flag.answered seq [0x00]) = flag.replied seq [0x00] ∧
      (all.answered seq [0x00]) = all.replied seq [0x00]) ∧
    (∀ scope : Byte, b.toNat = 0 ∨ 6 < b.toNat ∨ 1 < scope.toNat →
      exec (.slotRecoveryClear seq [b, scope]) s = .next (s.answered seq [0x04]))

/-- The service button (R108, R109, R110): each press is an occurrence, acts by the slot's state and starts
the hold timer; a release stops it; its expiry overrides a slot that is not OFF. A row that names the level
the line has already is no edge (log 3). -/
def Obligations.ButtonsPressHoldAndOverride : Prop :=
  ∀ (s : State) (i : SlotId), s.phase = .running →
    let l := s.lineSet i
    let x := s.slot i
    let taken := fun level : Bool =>
      s.setLineSet i { l with btn := { pin := level, level := level, period := none } }
    let told := occur ⟨42 + i.val, by omega⟩ none (taken true)
    let held := fun u : State => u.setSlot i { u.slot i with
      buttonHold := some (x.config.overrideTime * 1000) }
    (l.btn.level = false →
      (x.state = .off → l.present.level = true → s.staging.rail = .good →
        exec (.buttonPress i) s = .next (State.concluded (held (enqueue i .button
          ((unlist i told).setSlot i { told.slot i with override := false }))))) ∧
      (x.state = .off → l.present.level = false ∨ s.staging.rail = .lost →
        exec (.buttonPress i) s = .next (held told).concluded) ∧
      (x.state = .asleep → exec (.buttonPress i) s =
        .next (held (unlist i (wake i .button told))).concluded) ∧
      (x.state ≠ .off → x.state ≠ .asleep →
        exec (.buttonPress i) s = .next (held told).concluded)) ∧
    (l.btn.level = true → exec (.buttonPress i) s = .next (taken true).concluded) ∧
    (l.btn.level = true → exec (.buttonRelease i) s =
      .next (State.concluded ((taken false).setSlot i { x with buttonHold := none }))) ∧
    (l.btn.level = false → exec (.buttonRelease i) s = .next (taken false).concluded) ∧
    (x.buttonHold = none → exec (.buttonHoldExpiry i) s = .next s.concluded) ∧
    (x.buttonHold.isSome = true → x.state = .off → exec (.buttonHoldExpiry i) s =
      .next (State.concluded (s.setSlot i { x with buttonHold := none }))) ∧
    (x.buttonHold.isSome = true → x.state ≠ .off → exec (.buttonHoldExpiry i) s =
      .next (State.concluded (enter i .off .override none
        (s.setSlot i { x with buttonHold := none, override := true }))))

/-! ### The Staging Unit -/

/-- The start queue's timers (R116, R117; what follows is `WhatFollowsAStep`), and STAGE_CONFIG (R130),
which leaves running timers and everything else as they are. An OFF_TIME_ELAPSED row has the head's off timer
show its off time, and a STAGGER_EXPIRY row stops the timer, whether or not it is their moment (log 2). -/
def Obligations.StagingTimersAndSettings : Prop :=
  (∀ s : State, s.phase = .running →
    exec .staggerExpiry s =
      .next (s.setStaging { s.staging with staggerTimer := none }).concluded ∧
    (s.staging.startQueue = [] → exec .offTimeElapsed s = .next s.concluded) ∧
    (∀ (p : QueuePlace) (rest : List QueuePlace), s.staging.startQueue = p :: rest →
      let x := s.slot p.slot
      exec .offTimeElapsed s = .next (s.setSlot p.slot { x with
        offTimer := if x.offTimer < x.config.offTime * 100 then x.config.offTime * 100
          else x.offTimer }).concluded)) ∧
  (∀ (s : State) (seq gap settle : Byte), s.ready seq →
    exec (.stageConfig seq [gap, settle]) s = .next ((s.setStaging { s.staging with
      staggerGap := gap.toNat
      railSettle := settle.toNat }).answered seq [0x00]))

/-- MAINGOOD and the rail (R119, R120, R121): the settle, the loss that takes every slot down, with the stagger
gap where that ends a power-up (R116), and the return that queues slots by their resume policy; nothing else of
the slots, the table or the Staging Unit changes. A row that names the level the line has already is no edge
(log 3); a stopped settle timer does not run out (log 2). -/
def Obligations.TheRailIsLostAndReturns : Prop :=
  (∀ s : State, s.phase = .running →
    let taken := fun level : Bool =>
      s.setBoard { s.board with mainGood := { pin := level, level := level, period := none } }
    (s.board.mainGood.level = true → exec .maingoodAssert s = .next (taken true).concluded) ∧
    (s.board.mainGood.level = false →
      (s.staging.rail = .good ∨ s.staging.settleTimer.isSome = true →
        exec .maingoodAssert s = .next (taken true).concluded) ∧
      (s.staging.rail = .lost → s.staging.settleTimer = none → s.staging.railSettle ≠ 0 →
        exec .maingoodAssert s = .next ((taken true).setStaging { s.staging with
          settleTimer := some (s.staging.railSettle * 10) }).concluded) ∧
      (s.staging.rail = .lost → s.staging.settleTimer = none → s.staging.railSettle = 0 →
        exec .maingoodAssert s = .next (railReturns (taken true)).concluded)) ∧
    (s.board.mainGood.level = false → exec .maingoodRelease s = .next (taken false).concluded) ∧
    (s.board.mainGood.level = true →
      (s.staging.rail = .good →
        exec .maingoodRelease s = .next (railLost (taken false)).concluded) ∧
      (s.staging.rail = .lost → exec .maingoodRelease s = .next ((taken false).setStaging
        { s.staging with settleTimer := none }).concluded)) ∧
    exec .settleExpiry s = .next (if s.staging.settleTimer.isSome = true
      then (railReturns s).concluded else s.concluded)) ∧
  (∀ s : State,
    let t := railLost s
    let down := fun i : SlotId => s.lifeOf i ≠ .off ∧ s.lifeOf i ≠ .faulted
    t.staging = { s.staging with
      rail := .lost
      startQueue := []
      shedList := []
      shedLevel := 0
      escalationTimer := none
      coolTimer := none
      restore := .clear
      staggerTimer := if ∃ i : SlotId, s.lifeOf i = .powering ∨ s.lifeOf i = .releasing
        then (if s.staging.staggerGap = 0 then none else some (s.staging.staggerGap * 10))
        else s.staging.staggerTimer } ∧
    (∀ i : SlotId, t.slot i =
      if down i then { s.slot i with
        state := .off
        last := some { cause := .railLoss, time := s.uptime }
        step := none
        offTimer := if s.lifeOf i = .queued then (s.slot i).offTimer else 0
        stateAtLoss := some (s.lifeOf i)
        deferredWake := none
        pendingSleep := none
        verdictTimer := none
        idleTimer := none
        heartbeat := none
        expiredOnce := false
        holds := (t.slot i).holds }
      else { s.slot i with holds := (t.slot i).holds }) ∧
    (∀ i : SlotId, down i →
      (t.entry ⟨36 + i.val, by omega⟩).latch.bind Latch.detail = some 0x000B) ∧
    (t.entry 48).latched = true ∧
    (∀ e : EntryId, e ≠ 48 → (∀ i : SlotId, down i → e.val ≠ 36 + i.val) →
      t.entry e = s.entry e) ∧
    (∀ e : EntryId, t.entry e = { s.entry e with latch := (t.entry e).latch }) ∧
    t.outside = s.outside) ∧
  (∀ s : State,
    let t := railReturns s
    let resumes := fun i : SlotId => s.lifeOf i = .off ∧ (s.lineSet i).present.level = true ∧
      (s.slot i).override = false ∧ ((s.slot i).config.resumePolicy = .on ∨
        ((s.slot i).config.resumePolicy = .restore ∧ (s.slot i).stateAtLoss.isSome = true))
    let origin := fun i : SlotId =>
      if (s.slot i).config.resumePolicy = .on ∧ s.staging.firstReturn = true ∧
        s.session.autostart = true then QueueOrigin.autostart else QueueOrigin.resume
    t.staging = { s.staging with
      rail := .good
      settleTimer := none
      firstReturn := false
      startQueue := s.staging.startQueue ++
        ((List.finRange 6).filter fun i => decide (resumes i)).map
          (fun i => { slot := i, origin := origin i })
      escalationTimer := if s.board.therm.level = true ∧ s.staging.shedEnable = true
        then some (s.staging.escalationInterval * 1000) else s.staging.escalationTimer } ∧
    (∀ i : SlotId, t.slot i =
      if resumes i then { s.slot i with
        state := .queued
        last := some { cause := (origin i).cause, time := s.uptime }
        step := none
        stateAtLoss := none
        deferredWake := none
        pendingSleep := none
        verdictTimer := none
        idleTimer := none
        heartbeat := none
        expiredOnce := false
        holds := (t.slot i).holds }
      else { s.slot i with stateAtLoss := none, holds := (t.slot i).holds }) ∧
    (t.entry 49).latched = true ∧ (∀ e : EntryId, e ≠ 49 → t.entry e = s.entry e) ∧
    t.entry 49 = { s.entry 49 with latch := (t.entry 49).latch } ∧ t.outside = s.outside)

/-- THERM, escalation, cooling and restore (R122, R123, R125 to R129): the shed slots go in ascending order
with cause SHED, a restored one wakes with cause SHED_RESTORE or is queued with that origin, and nothing else
of the slots, the table or the Staging Unit changes. A row that names the level the line has already is no
edge (log 3); a stopped timer does not run out (log 2). -/
def Obligations.HeatShedsAndCoolRestores : Prop :=
  (∀ s : State, s.phase = .running →
    let taken := fun level : Bool =>
      s.setBoard { s.board with therm := { pin := level, level := level, period := none } }
    (s.board.therm.level = true → exec .thermAssert s = .next (taken true).concluded) ∧
    (s.board.therm.level = false →
      let heated := (taken true).setStaging { s.staging with
        coolTimer := none
        restore := .clear
        shedLevel := if s.staging.restore = .clear then s.staging.shedLevel else 0 }
      let stepped := if s.staging.shedEnable = true ∧ s.staging.rail = .good
        then escalate heated else heated
      exec .thermAssert s = .next (State.concluded (occur 50
        (some ((0x00 : Byte) ++ BitVec.ofNat 8 stepped.staging.shedLevel)) stepped))) ∧
    (s.board.therm.level = false → exec .thermRelease s = .next (taken false).concluded) ∧
    (s.board.therm.level = true → exec .thermRelease s = .next ((taken false).setStaging
      { s.staging with
        escalationTimer := none
        coolTimer := if s.staging.rail = .good then some (s.staging.coolTime * 1000)
          else s.staging.coolTimer }).concluded) ∧
    exec .escalationExpiry s = .next (if s.staging.escalationTimer.isSome = true
      then (escalate s).concluded else s.concluded) ∧
    (s.staging.coolTimer = none → exec .coolExpiry s = .next s.concluded) ∧
    (s.staging.coolTimer.isSome = true → exec .coolExpiry s = .next (s.setStaging { s.staging with
      coolTimer := none
      restore := if s.staging.shedList = [] then s.staging.restore else .between }).concluded)) ∧
  (∀ s : State,
    let eligible := fun (level : Nat) (i : SlotId) =>
      (s.lifeOf i = .running ∨ s.lifeOf i = .sleepWait) ∧ 1 ≤ (s.slot i).config.shedRank ∧
        (s.slot i).config.shedRank ≤ level ∧ i ∉ s.staging.shedList.map ShedPlace.slot
    let shed := fun (u : State) (i : SlotId) =>
      let listed := u.setStaging { u.staging with
        shedList := u.staging.shedList ++ [{ slot := i, action := (u.slot i).config.shedAction }] }
      match (u.slot i).config.shedAction with
      | .sleep => beginEntering i .shed listed
      | .stop => beginStopping i .shed listed
    ((∀ level i, s.staging.shedLevel < level → level ≤ 6 → ¬ eligible level i) →
      escalate s = s.setStaging { s.staging with escalationTimer := none }) ∧
    (∀ level : Nat, s.staging.shedLevel < level → level ≤ 6 → (∃ i, eligible level i) →
      (∀ lower i, s.staging.shedLevel < lower → lower < level → ¬ eligible lower i) →
      let t := escalate s
      let found := (List.finRange 6).filter fun i => decide (eligible level i)
      let done := found.foldl shed (s.setStaging { s.staging with shedLevel := level })
      t = done.setStaging { done.staging with
        escalationTimer := some (s.staging.escalationInterval * 1000) } ∧
      t.staging = { s.staging with
        shedLevel := level
        escalationTimer := some (s.staging.escalationInterval * 1000)
        shedList := s.staging.shedList ++
          found.map (fun i => { slot := i, action := (s.slot i).config.shedAction })
        restore := if ∃ i, eligible level i ∧ s.staging.restore = .watching i ∧
            (s.slot i).config.shedAction = .stop ∧ (s.lineSet i).rdy.level = true
          then .between else s.staging.restore } ∧
      (∀ i : SlotId, t.lifeOf i = (if eligible level i
        then (match (s.slot i).config.shedAction, (s.lineSet i).rdy.level with
          | .sleep, false => .entering
          | .sleep, true => .asleep
          | .stop, false => .stopping
          | .stop, true => .off)
        else s.lifeOf i)) ∧
      (∀ i : SlotId, eligible level i →
        (t.slot i).last = some { cause := .shed, time := s.uptime } ∧
        (t.slot i).config = (s.slot i).config ∧ (t.slot i).hostHolds = (s.slot i).hostHolds) ∧
      (∀ i : SlotId, ¬ eligible level i →
        t.slot i = { s.slot i with holds := (t.slot i).holds }) ∧
      (∀ e : EntryId, (∀ i : SlotId, eligible level i → e.val ≠ 36 + i.val) →
        t.entry e = s.entry e) ∧
      t.outside = s.outside)) ∧
  (∀ (s : State) (rest : List ShedPlace) (p : ShedPlace), s.staging.restore = .between →
    s.staging.shedList = rest ++ [p] → p.slot ∉ rest.map ShedPlace.slot →
    let t := restoreNext s
    let removed := fun next : Restore => s.setStaging { s.staging with
      shedList := rest
      shedLevel := if rest = [] then 0 else s.staging.shedLevel
      restore := if rest = [] then .clear else next }
    (p.action = .sleep → s.lifeOf p.slot = .asleep →
      t = beginWaking p.slot .shedRestore (removed (.watching p.slot))) ∧
    (p.action = .stop → s.lifeOf p.slot = .off → s.autoClaimable p.slot = true →
      t = enqueue p.slot .shedRestore (removed (.watching p.slot))) ∧
    ((p.action = .sleep ∧ s.lifeOf p.slot ≠ .asleep) ∨
        (p.action = .stop ∧ (s.lifeOf p.slot ≠ .off ∨ s.autoClaimable p.slot = false)) →
      t = removed .between) ∧
    (s.autoClaimable p.slot = true ↔ s.lifeOf p.slot = .off ∧
      (s.lineSet p.slot).present.level = true ∧ s.staging.rail = .good ∧
      (s.slot p.slot).override = false) ∧
    t.staging.shedList = rest ∧
    (rest = [] → t.staging.shedLevel = 0 ∧ t.staging.restore = .clear) ∧
    (rest ≠ [] → t.staging.shedLevel = s.staging.shedLevel) ∧
    (p.action = .sleep → s.lifeOf p.slot = .asleep → (s.lineSet p.slot).pgood.level = false →
      t.lifeOf p.slot = .waking ∧ (rest ≠ [] → t.staging.restore = .watching p.slot)) ∧
    (p.action = .stop → s.lifeOf p.slot = .off → s.autoClaimable p.slot = true →
      t.lifeOf p.slot = .queued ∧ (rest ≠ [] → t.staging.restore = .watching p.slot) ∧
      t.staging.startQueue =
        s.staging.startQueue ++ [{ slot := p.slot, origin := .shedRestore }]) ∧
    (p.action = .sleep → s.lifeOf p.slot = .asleep → (s.lineSet p.slot).pgood.level = true →
      t.lifeOf p.slot = (if (s.lineSet p.slot).rdy.level then .waking else .running)) ∧
    (t.lifeOf p.slot ≠ s.lifeOf p.slot →
      (t.slot p.slot).last = some { cause := .shedRestore, time := s.uptime }) ∧
    (∀ i : SlotId, i ≠ p.slot → t.slot i = { s.slot i with holds := (t.slot i).holds }) ∧
    (∀ e : EntryId, e.val ≠ 36 + p.slot.val → t.entry e = s.entry e) ∧
    t.outside = s.outside) ∧
  (∀ s : State, s.staging.shedList = [] →
    restoreNext s = s.setStaging { s.staging with restore := .clear })

/-- SHED_CONFIG (R131). -/
def Obligations.ShedConfigReplacesTheSettings : Prop :=
  ∀ (s : State) (seq enable interval cool : Byte), s.ready seq →
    let set := fun on : Bool => s.setStaging { s.staging with
      shedEnable := on
      escalationInterval := interval.toNat
      coolTime := cool.toNat }
    (interval ≠ 0 → cool ≠ 0 →
      exec (.shedConfig seq [0, interval, cool]) s = .next (((set false).setStaging
        { (set false).staging with escalationTimer := none }).answered seq [0x00]) ∧
      exec (.shedConfig seq [1, interval, cool]) s = .next (State.answered
        (if s.board.therm.level = true ∧ s.staging.rail = .good ∧ s.staging.escalationTimer = none
          then escalate (set true) else set true) seq [0x00])) ∧
    (1 < enable.toNat ∨ interval = 0 ∨ cool = 0 →
      exec (.shedConfig seq [enable, interval, cool]) s = .next (s.answered seq [0x04]))

/-! ### Timers -/

/-- TIMER_START (R137) and TIMER_STOP (R139), in both timer states, and a timer that runs out (R138): one
occurrence on entry 50 + n, then ONCE stops and REPEAT goes on. A stopped timer does not run out (log 2). -/
def Obligations.TimersStartStopAndRunOut : Prop :=
  (∀ (s : State) (seq b mode high low : Byte), s.ready seq →
    (∀ t : TimerId, b.toNat = t.val + 1 →
      (∀ m : TimerMode, mode = (match m with | .once => 0 | .repeats => 1) →
        high ++ low ≠ (0 : Half) →
        exec (.timerStart seq [b, mode, high, low]) s = .next ((s.setTimer t
          { state := .running, mode := m, interval := high ++ low,
            remaining := high ++ low }).answered seq [0x00])) ∧
      ((s.timer t).state = .running → exec (.timerStop seq [b]) s = .next ((s.setTimer t
        { s.timer t with state := .stopped, remaining := 0 }).answered seq [0x00])) ∧
      ((s.timer t).state = .stopped →
        exec (.timerStop seq [b]) s = .next (s.answered seq [0x00]))) ∧
    (b.toNat = 0 ∨ 4 < b.toNat ∨ 1 < mode.toNat ∨ high ++ low = (0 : Half) →
      exec (.timerStart seq [b, mode, high, low]) s = .next (s.answered seq [0x04])) ∧
    (b.toNat = 0 ∨ 4 < b.toNat → exec (.timerStop seq [b]) s = .next (s.answered seq [0x04]))) ∧
  (∀ (s : State) (t : TimerId), s.phase = .running →
    let told := occur ⟨51 + t.val, by omega⟩ none s
    ((s.timer t).state = .running → (s.timer t).mode = .once →
      exec (.timerExpiry t) s = .next (told.setTimer t
        { s.timer t with state := .stopped, remaining := 0 }).concluded) ∧
    ((s.timer t).state = .running → (s.timer t).mode = .repeats →
      exec (.timerExpiry t) s = .next (told.setTimer t
        { s.timer t with remaining := (s.timer t).interval }).concluded) ∧
    ((s.timer t).state = .stopped → exec (.timerExpiry t) s = .next s.concluded))
end

