-- ==== Sys2Proof/Laws/State.lean ====
section
/-! SUPPORT. The small lemmas of State: what each update leaves, field by field, and what a record reads
as after an update. -/

namespace Sys2Proof.Machine.State

/-! ### Fields an update leaves as they are -/

@[simp] theorem setEntry_phase (s : State) (e : EntryId) (x : Entry) : (s.setEntry e x).phase = s.phase := rfl
@[simp] theorem setEntry_straps (s : State) (e : EntryId) (x : Entry) : (s.setEntry e x).straps = s.straps := rfl
@[simp] theorem setEntry_board (s : State) (e : EntryId) (x : Entry) : (s.setEntry e x).board = s.board := rfl
@[simp] theorem setEntry_lines (s : State) (e : EntryId) (x : Entry) : (s.setEntry e x).lines = s.lines := rfl
@[simp] theorem setEntry_wakes (s : State) (e : EntryId) (x : Entry) : (s.setEntry e x).wakes = s.wakes := rfl
@[simp] theorem setEntry_priority (s : State) (e : EntryId) (x : Entry) : (s.setEntry e x).priority = s.priority := rfl
@[simp] theorem setEntry_routine (s : State) (e : EntryId) (x : Entry) : (s.setEntry e x).routine = s.routine := rfl
@[simp] theorem setEntry_slots (s : State) (e : EntryId) (x : Entry) : (s.setEntry e x).slots = s.slots := rfl
@[simp] theorem setEntry_staging (s : State) (e : EntryId) (x : Entry) : (s.setEntry e x).staging = s.staging := rfl
@[simp] theorem setEntry_uptime (s : State) (e : EntryId) (x : Entry) : (s.setEntry e x).uptime = s.uptime := rfl
@[simp] theorem setEntry_timers (s : State) (e : EntryId) (x : Entry) : (s.setEntry e x).timers = s.timers := rfl
@[simp] theorem setEntry_link (s : State) (e : EntryId) (x : Entry) : (s.setEntry e x).link = s.link := rfl
@[simp] theorem setEntry_session (s : State) (e : EntryId) (x : Entry) : (s.setEntry e x).session = s.session := rfl
@[simp] theorem setEntry_pending (s : State) (e : EntryId) (x : Entry) : (s.setEntry e x).pending = s.pending := rfl
@[simp] theorem setEntry_choices (s : State) (e : EntryId) (x : Entry) : (s.setEntry e x).choices = s.choices := rfl

@[simp] theorem setSlot_phase (s : State) (i : SlotId) (x : Slot) : (s.setSlot i x).phase = s.phase := rfl
@[simp] theorem setSlot_straps (s : State) (i : SlotId) (x : Slot) : (s.setSlot i x).straps = s.straps := rfl
@[simp] theorem setSlot_board (s : State) (i : SlotId) (x : Slot) : (s.setSlot i x).board = s.board := rfl
@[simp] theorem setSlot_lines (s : State) (i : SlotId) (x : Slot) : (s.setSlot i x).lines = s.lines := rfl
@[simp] theorem setSlot_entries (s : State) (i : SlotId) (x : Slot) : (s.setSlot i x).entries = s.entries := rfl
@[simp] theorem setSlot_wakes (s : State) (i : SlotId) (x : Slot) : (s.setSlot i x).wakes = s.wakes := rfl
@[simp] theorem setSlot_priority (s : State) (i : SlotId) (x : Slot) : (s.setSlot i x).priority = s.priority := rfl
@[simp] theorem setSlot_routine (s : State) (i : SlotId) (x : Slot) : (s.setSlot i x).routine = s.routine := rfl
@[simp] theorem setSlot_staging (s : State) (i : SlotId) (x : Slot) : (s.setSlot i x).staging = s.staging := rfl
@[simp] theorem setSlot_uptime (s : State) (i : SlotId) (x : Slot) : (s.setSlot i x).uptime = s.uptime := rfl
@[simp] theorem setSlot_timers (s : State) (i : SlotId) (x : Slot) : (s.setSlot i x).timers = s.timers := rfl
@[simp] theorem setSlot_link (s : State) (i : SlotId) (x : Slot) : (s.setSlot i x).link = s.link := rfl
@[simp] theorem setSlot_session (s : State) (i : SlotId) (x : Slot) : (s.setSlot i x).session = s.session := rfl
@[simp] theorem setSlot_pending (s : State) (i : SlotId) (x : Slot) : (s.setSlot i x).pending = s.pending := rfl
@[simp] theorem setSlot_choices (s : State) (i : SlotId) (x : Slot) : (s.setSlot i x).choices = s.choices := rfl

@[simp] theorem mapSlots_phase (s : State) (f : SlotId → Slot → Slot) : (s.mapSlots f).phase = s.phase := rfl
@[simp] theorem mapSlots_straps (s : State) (f : SlotId → Slot → Slot) : (s.mapSlots f).straps = s.straps := rfl
@[simp] theorem mapSlots_board (s : State) (f : SlotId → Slot → Slot) : (s.mapSlots f).board = s.board := rfl
@[simp] theorem mapSlots_lines (s : State) (f : SlotId → Slot → Slot) : (s.mapSlots f).lines = s.lines := rfl
@[simp] theorem mapSlots_entries (s : State) (f : SlotId → Slot → Slot) : (s.mapSlots f).entries = s.entries := rfl
@[simp] theorem mapSlots_wakes (s : State) (f : SlotId → Slot → Slot) : (s.mapSlots f).wakes = s.wakes := rfl
@[simp] theorem mapSlots_priority (s : State) (f : SlotId → Slot → Slot) : (s.mapSlots f).priority = s.priority := rfl
@[simp] theorem mapSlots_routine (s : State) (f : SlotId → Slot → Slot) : (s.mapSlots f).routine = s.routine := rfl
@[simp] theorem mapSlots_staging (s : State) (f : SlotId → Slot → Slot) : (s.mapSlots f).staging = s.staging := rfl
@[simp] theorem mapSlots_uptime (s : State) (f : SlotId → Slot → Slot) : (s.mapSlots f).uptime = s.uptime := rfl
@[simp] theorem mapSlots_timers (s : State) (f : SlotId → Slot → Slot) : (s.mapSlots f).timers = s.timers := rfl
@[simp] theorem mapSlots_link (s : State) (f : SlotId → Slot → Slot) : (s.mapSlots f).link = s.link := rfl
@[simp] theorem mapSlots_session (s : State) (f : SlotId → Slot → Slot) : (s.mapSlots f).session = s.session := rfl
@[simp] theorem mapSlots_pending (s : State) (f : SlotId → Slot → Slot) : (s.mapSlots f).pending = s.pending := rfl
@[simp] theorem mapSlots_choices (s : State) (f : SlotId → Slot → Slot) : (s.mapSlots f).choices = s.choices := rfl

@[simp] theorem setLineSet_phase (s : State) (i : SlotId) (x : SlotLines) : (s.setLineSet i x).phase = s.phase := rfl
@[simp] theorem setLineSet_straps (s : State) (i : SlotId) (x : SlotLines) : (s.setLineSet i x).straps = s.straps := rfl
@[simp] theorem setLineSet_board (s : State) (i : SlotId) (x : SlotLines) : (s.setLineSet i x).board = s.board := rfl
@[simp] theorem setLineSet_entries (s : State) (i : SlotId) (x : SlotLines) : (s.setLineSet i x).entries = s.entries := rfl
@[simp] theorem setLineSet_wakes (s : State) (i : SlotId) (x : SlotLines) : (s.setLineSet i x).wakes = s.wakes := rfl
@[simp] theorem setLineSet_priority (s : State) (i : SlotId) (x : SlotLines) : (s.setLineSet i x).priority = s.priority := rfl
@[simp] theorem setLineSet_routine (s : State) (i : SlotId) (x : SlotLines) : (s.setLineSet i x).routine = s.routine := rfl
@[simp] theorem setLineSet_slots (s : State) (i : SlotId) (x : SlotLines) : (s.setLineSet i x).slots = s.slots := rfl
@[simp] theorem setLineSet_staging (s : State) (i : SlotId) (x : SlotLines) : (s.setLineSet i x).staging = s.staging := rfl
@[simp] theorem setLineSet_uptime (s : State) (i : SlotId) (x : SlotLines) : (s.setLineSet i x).uptime = s.uptime := rfl
@[simp] theorem setLineSet_timers (s : State) (i : SlotId) (x : SlotLines) : (s.setLineSet i x).timers = s.timers := rfl
@[simp] theorem setLineSet_link (s : State) (i : SlotId) (x : SlotLines) : (s.setLineSet i x).link = s.link := rfl
@[simp] theorem setLineSet_session (s : State) (i : SlotId) (x : SlotLines) : (s.setLineSet i x).session = s.session := rfl
@[simp] theorem setLineSet_pending (s : State) (i : SlotId) (x : SlotLines) : (s.setLineSet i x).pending = s.pending := rfl
@[simp] theorem setLineSet_choices (s : State) (i : SlotId) (x : SlotLines) : (s.setLineSet i x).choices = s.choices := rfl

@[simp] theorem setGeiLine_phase (s : State) (n : GeiLine) (x : Line) : (s.setGeiLine n x).phase = s.phase := rfl
@[simp] theorem setGeiLine_straps (s : State) (n : GeiLine) (x : Line) : (s.setGeiLine n x).straps = s.straps := rfl
@[simp] theorem setGeiLine_lines (s : State) (n : GeiLine) (x : Line) : (s.setGeiLine n x).lines = s.lines := rfl
@[simp] theorem setGeiLine_entries (s : State) (n : GeiLine) (x : Line) : (s.setGeiLine n x).entries = s.entries := rfl
@[simp] theorem setGeiLine_wakes (s : State) (n : GeiLine) (x : Line) : (s.setGeiLine n x).wakes = s.wakes := rfl
@[simp] theorem setGeiLine_priority (s : State) (n : GeiLine) (x : Line) : (s.setGeiLine n x).priority = s.priority := rfl
@[simp] theorem setGeiLine_routine (s : State) (n : GeiLine) (x : Line) : (s.setGeiLine n x).routine = s.routine := rfl
@[simp] theorem setGeiLine_slots (s : State) (n : GeiLine) (x : Line) : (s.setGeiLine n x).slots = s.slots := rfl
@[simp] theorem setGeiLine_staging (s : State) (n : GeiLine) (x : Line) : (s.setGeiLine n x).staging = s.staging := rfl
@[simp] theorem setGeiLine_uptime (s : State) (n : GeiLine) (x : Line) : (s.setGeiLine n x).uptime = s.uptime := rfl
@[simp] theorem setGeiLine_timers (s : State) (n : GeiLine) (x : Line) : (s.setGeiLine n x).timers = s.timers := rfl
@[simp] theorem setGeiLine_link (s : State) (n : GeiLine) (x : Line) : (s.setGeiLine n x).link = s.link := rfl
@[simp] theorem setGeiLine_session (s : State) (n : GeiLine) (x : Line) : (s.setGeiLine n x).session = s.session := rfl
@[simp] theorem setGeiLine_pending (s : State) (n : GeiLine) (x : Line) : (s.setGeiLine n x).pending = s.pending := rfl
@[simp] theorem setGeiLine_choices (s : State) (n : GeiLine) (x : Line) : (s.setGeiLine n x).choices = s.choices := rfl

@[simp] theorem setBoard_phase (s : State) (x : BoardLines) : (s.setBoard x).phase = s.phase := rfl
@[simp] theorem setBoard_straps (s : State) (x : BoardLines) : (s.setBoard x).straps = s.straps := rfl
@[simp] theorem setBoard_lines (s : State) (x : BoardLines) : (s.setBoard x).lines = s.lines := rfl
@[simp] theorem setBoard_entries (s : State) (x : BoardLines) : (s.setBoard x).entries = s.entries := rfl
@[simp] theorem setBoard_wakes (s : State) (x : BoardLines) : (s.setBoard x).wakes = s.wakes := rfl
@[simp] theorem setBoard_priority (s : State) (x : BoardLines) : (s.setBoard x).priority = s.priority := rfl
@[simp] theorem setBoard_routine (s : State) (x : BoardLines) : (s.setBoard x).routine = s.routine := rfl
@[simp] theorem setBoard_slots (s : State) (x : BoardLines) : (s.setBoard x).slots = s.slots := rfl
@[simp] theorem setBoard_staging (s : State) (x : BoardLines) : (s.setBoard x).staging = s.staging := rfl
@[simp] theorem setBoard_uptime (s : State) (x : BoardLines) : (s.setBoard x).uptime = s.uptime := rfl
@[simp] theorem setBoard_timers (s : State) (x : BoardLines) : (s.setBoard x).timers = s.timers := rfl
@[simp] theorem setBoard_link (s : State) (x : BoardLines) : (s.setBoard x).link = s.link := rfl
@[simp] theorem setBoard_session (s : State) (x : BoardLines) : (s.setBoard x).session = s.session := rfl
@[simp] theorem setBoard_pending (s : State) (x : BoardLines) : (s.setBoard x).pending = s.pending := rfl
@[simp] theorem setBoard_choices (s : State) (x : BoardLines) : (s.setBoard x).choices = s.choices := rfl

@[simp] theorem setStaging_phase (s : State) (x : Staging) : (s.setStaging x).phase = s.phase := rfl
@[simp] theorem setStaging_straps (s : State) (x : Staging) : (s.setStaging x).straps = s.straps := rfl
@[simp] theorem setStaging_board (s : State) (x : Staging) : (s.setStaging x).board = s.board := rfl
@[simp] theorem setStaging_lines (s : State) (x : Staging) : (s.setStaging x).lines = s.lines := rfl
@[simp] theorem setStaging_entries (s : State) (x : Staging) : (s.setStaging x).entries = s.entries := rfl
@[simp] theorem setStaging_wakes (s : State) (x : Staging) : (s.setStaging x).wakes = s.wakes := rfl
@[simp] theorem setStaging_priority (s : State) (x : Staging) : (s.setStaging x).priority = s.priority := rfl
@[simp] theorem setStaging_routine (s : State) (x : Staging) : (s.setStaging x).routine = s.routine := rfl
@[simp] theorem setStaging_slots (s : State) (x : Staging) : (s.setStaging x).slots = s.slots := rfl
@[simp] theorem setStaging_uptime (s : State) (x : Staging) : (s.setStaging x).uptime = s.uptime := rfl
@[simp] theorem setStaging_timers (s : State) (x : Staging) : (s.setStaging x).timers = s.timers := rfl
@[simp] theorem setStaging_link (s : State) (x : Staging) : (s.setStaging x).link = s.link := rfl
@[simp] theorem setStaging_session (s : State) (x : Staging) : (s.setStaging x).session = s.session := rfl
@[simp] theorem setStaging_pending (s : State) (x : Staging) : (s.setStaging x).pending = s.pending := rfl
@[simp] theorem setStaging_choices (s : State) (x : Staging) : (s.setStaging x).choices = s.choices := rfl

@[simp] theorem setLink_phase (s : State) (x : Link) : (s.setLink x).phase = s.phase := rfl
@[simp] theorem setLink_straps (s : State) (x : Link) : (s.setLink x).straps = s.straps := rfl
@[simp] theorem setLink_board (s : State) (x : Link) : (s.setLink x).board = s.board := rfl
@[simp] theorem setLink_lines (s : State) (x : Link) : (s.setLink x).lines = s.lines := rfl
@[simp] theorem setLink_entries (s : State) (x : Link) : (s.setLink x).entries = s.entries := rfl
@[simp] theorem setLink_wakes (s : State) (x : Link) : (s.setLink x).wakes = s.wakes := rfl
@[simp] theorem setLink_priority (s : State) (x : Link) : (s.setLink x).priority = s.priority := rfl
@[simp] theorem setLink_routine (s : State) (x : Link) : (s.setLink x).routine = s.routine := rfl
@[simp] theorem setLink_slots (s : State) (x : Link) : (s.setLink x).slots = s.slots := rfl
@[simp] theorem setLink_staging (s : State) (x : Link) : (s.setLink x).staging = s.staging := rfl
@[simp] theorem setLink_uptime (s : State) (x : Link) : (s.setLink x).uptime = s.uptime := rfl
@[simp] theorem setLink_timers (s : State) (x : Link) : (s.setLink x).timers = s.timers := rfl
@[simp] theorem setLink_session (s : State) (x : Link) : (s.setLink x).session = s.session := rfl
@[simp] theorem setLink_pending (s : State) (x : Link) : (s.setLink x).pending = s.pending := rfl
@[simp] theorem setLink_choices (s : State) (x : Link) : (s.setLink x).choices = s.choices := rfl

@[simp] theorem setWakes_phase (s : State) (x : List WakeRequest) : (s.setWakes x).phase = s.phase := rfl
@[simp] theorem setWakes_straps (s : State) (x : List WakeRequest) : (s.setWakes x).straps = s.straps := rfl
@[simp] theorem setWakes_board (s : State) (x : List WakeRequest) : (s.setWakes x).board = s.board := rfl
@[simp] theorem setWakes_lines (s : State) (x : List WakeRequest) : (s.setWakes x).lines = s.lines := rfl
@[simp] theorem setWakes_entries (s : State) (x : List WakeRequest) : (s.setWakes x).entries = s.entries := rfl
@[simp] theorem setWakes_priority (s : State) (x : List WakeRequest) : (s.setWakes x).priority = s.priority := rfl
@[simp] theorem setWakes_routine (s : State) (x : List WakeRequest) : (s.setWakes x).routine = s.routine := rfl
@[simp] theorem setWakes_slots (s : State) (x : List WakeRequest) : (s.setWakes x).slots = s.slots := rfl
@[simp] theorem setWakes_staging (s : State) (x : List WakeRequest) : (s.setWakes x).staging = s.staging := rfl
@[simp] theorem setWakes_uptime (s : State) (x : List WakeRequest) : (s.setWakes x).uptime = s.uptime := rfl
@[simp] theorem setWakes_timers (s : State) (x : List WakeRequest) : (s.setWakes x).timers = s.timers := rfl
@[simp] theorem setWakes_link (s : State) (x : List WakeRequest) : (s.setWakes x).link = s.link := rfl
@[simp] theorem setWakes_session (s : State) (x : List WakeRequest) : (s.setWakes x).session = s.session := rfl
@[simp] theorem setWakes_pending (s : State) (x : List WakeRequest) : (s.setWakes x).pending = s.pending := rfl
@[simp] theorem setWakes_choices (s : State) (x : List WakeRequest) : (s.setWakes x).choices = s.choices := rfl

@[simp] theorem setTimer_phase (s : State) (t : TimerId) (x : GeneralTimer) : (s.setTimer t x).phase = s.phase := rfl
@[simp] theorem setTimer_straps (s : State) (t : TimerId) (x : GeneralTimer) : (s.setTimer t x).straps = s.straps := rfl
@[simp] theorem setTimer_board (s : State) (t : TimerId) (x : GeneralTimer) : (s.setTimer t x).board = s.board := rfl
@[simp] theorem setTimer_lines (s : State) (t : TimerId) (x : GeneralTimer) : (s.setTimer t x).lines = s.lines := rfl
@[simp] theorem setTimer_entries (s : State) (t : TimerId) (x : GeneralTimer) : (s.setTimer t x).entries = s.entries := rfl
@[simp] theorem setTimer_wakes (s : State) (t : TimerId) (x : GeneralTimer) : (s.setTimer t x).wakes = s.wakes := rfl
@[simp] theorem setTimer_priority (s : State) (t : TimerId) (x : GeneralTimer) : (s.setTimer t x).priority = s.priority := rfl
@[simp] theorem setTimer_routine (s : State) (t : TimerId) (x : GeneralTimer) : (s.setTimer t x).routine = s.routine := rfl
@[simp] theorem setTimer_slots (s : State) (t : TimerId) (x : GeneralTimer) : (s.setTimer t x).slots = s.slots := rfl
@[simp] theorem setTimer_staging (s : State) (t : TimerId) (x : GeneralTimer) : (s.setTimer t x).staging = s.staging := rfl
@[simp] theorem setTimer_uptime (s : State) (t : TimerId) (x : GeneralTimer) : (s.setTimer t x).uptime = s.uptime := rfl
@[simp] theorem setTimer_link (s : State) (t : TimerId) (x : GeneralTimer) : (s.setTimer t x).link = s.link := rfl
@[simp] theorem setTimer_session (s : State) (t : TimerId) (x : GeneralTimer) : (s.setTimer t x).session = s.session := rfl
@[simp] theorem setTimer_pending (s : State) (t : TimerId) (x : GeneralTimer) : (s.setTimer t x).pending = s.pending := rfl
@[simp] theorem setTimer_choices (s : State) (t : TimerId) (x : GeneralTimer) : (s.setTimer t x).choices = s.choices := rfl

@[simp] theorem setChannel_phase (s : State) (c : ChannelId) (x : Channel) :
    (s.setChannel c x).phase = s.phase := by cases c <;> rfl
@[simp] theorem setChannel_straps (s : State) (c : ChannelId) (x : Channel) :
    (s.setChannel c x).straps = s.straps := by cases c <;> rfl
@[simp] theorem setChannel_board (s : State) (c : ChannelId) (x : Channel) :
    (s.setChannel c x).board = s.board := by cases c <;> rfl
@[simp] theorem setChannel_lines (s : State) (c : ChannelId) (x : Channel) :
    (s.setChannel c x).lines = s.lines := by cases c <;> rfl
@[simp] theorem setChannel_entries (s : State) (c : ChannelId) (x : Channel) :
    (s.setChannel c x).entries = s.entries := by cases c <;> rfl
@[simp] theorem setChannel_wakes (s : State) (c : ChannelId) (x : Channel) :
    (s.setChannel c x).wakes = s.wakes := by cases c <;> rfl
@[simp] theorem setChannel_slots (s : State) (c : ChannelId) (x : Channel) :
    (s.setChannel c x).slots = s.slots := by cases c <;> rfl
@[simp] theorem setChannel_staging (s : State) (c : ChannelId) (x : Channel) :
    (s.setChannel c x).staging = s.staging := by cases c <;> rfl
@[simp] theorem setChannel_uptime (s : State) (c : ChannelId) (x : Channel) :
    (s.setChannel c x).uptime = s.uptime := by cases c <;> rfl
@[simp] theorem setChannel_timers (s : State) (c : ChannelId) (x : Channel) :
    (s.setChannel c x).timers = s.timers := by cases c <;> rfl
@[simp] theorem setChannel_link (s : State) (c : ChannelId) (x : Channel) :
    (s.setChannel c x).link = s.link := by cases c <;> rfl
@[simp] theorem setChannel_session (s : State) (c : ChannelId) (x : Channel) :
    (s.setChannel c x).session = s.session := by cases c <;> rfl
@[simp] theorem setChannel_pending (s : State) (c : ChannelId) (x : Channel) :
    (s.setChannel c x).pending = s.pending := by cases c <;> rfl
@[simp] theorem setChannel_choices (s : State) (c : ChannelId) (x : Channel) :
    (s.setChannel c x).choices = s.choices := by cases c <;> rfl

/-! ### Fields an update writes -/

@[simp] theorem setBoard_board (s : State) (x : BoardLines) : (s.setBoard x).board = x := rfl
@[simp] theorem setStaging_staging (s : State) (x : Staging) : (s.setStaging x).staging = x := rfl
@[simp] theorem setLink_link (s : State) (x : Link) : (s.setLink x).link = x := rfl
@[simp] theorem setWakes_wakes (s : State) (x : List WakeRequest) : (s.setWakes x).wakes = x := rfl

/-! ### Records read after an update -/

@[simp] theorem entry_setEntry (s : State) (e : EntryId) (x : Entry) :
    (s.setEntry e x).entry e = x := by simp [entry, setEntry]

theorem entry_setEntry_ne (s : State) {e e' : EntryId} (x : Entry) (h : e' ≠ e) :
    (s.setEntry e x).entry e' = s.entry e' := by
  simp [entry, setEntry, Fin.val_inj, h.symm]

@[simp] theorem slot_setSlot (s : State) (i : SlotId) (x : Slot) :
    (s.setSlot i x).slot i = x := by simp [slot, setSlot]

theorem slot_setSlot_ne (s : State) {i j : SlotId} (x : Slot) (h : j ≠ i) :
    (s.setSlot i x).slot j = s.slot j := by
  simp [slot, setSlot, Fin.val_inj, h.symm]

@[simp] theorem slot_mapSlots (s : State) (f : SlotId → Slot → Slot) (i : SlotId) :
    (s.mapSlots f).slot i = f i (s.slot i) := by simp [slot, mapSlots]

@[simp] theorem lineSet_setLineSet (s : State) (i : SlotId) (x : SlotLines) :
    (s.setLineSet i x).lineSet i = x := by simp [lineSet, setLineSet]

theorem lineSet_setLineSet_ne (s : State) {i j : SlotId} (x : SlotLines) (h : j ≠ i) :
    (s.setLineSet i x).lineSet j = s.lineSet j := by
  simp [lineSet, setLineSet, Fin.val_inj, h.symm]

@[simp] theorem geiLine_setGeiLine (s : State) (n : GeiLine) (x : Line) :
    (s.setGeiLine n x).geiLine n = x := by simp [geiLine, setGeiLine]

theorem geiLine_setGeiLine_ne (s : State) {n m : GeiLine} (x : Line) (h : m ≠ n) :
    (s.setGeiLine n x).geiLine m = s.geiLine m := by
  simp [geiLine, setGeiLine, Fin.val_inj, h.symm]

@[simp] theorem timer_setTimer (s : State) (t : TimerId) (x : GeneralTimer) :
    (s.setTimer t x).timer t = x := by simp [timer, setTimer]

theorem timer_setTimer_ne (s : State) {t u : TimerId} (x : GeneralTimer) (h : u ≠ t) :
    (s.setTimer t x).timer u = s.timer u := by
  simp [timer, setTimer, Fin.val_inj, h.symm]

@[simp] theorem channel_setChannel (s : State) (c : ChannelId) (x : Channel) :
    (s.setChannel c x).channel c = x := by cases c <;> rfl

theorem channel_setChannel_ne (s : State) {c d : ChannelId} (x : Channel) (h : d ≠ c) :
    (s.setChannel c x).channel d = s.channel d := by
  cases c <;> cases d <;> first | rfl | exact absurd rfl h

/-- Writing a slot's record as it is changes nothing. -/
@[simp] theorem setSlot_self (s : State) (i : SlotId) : s.setSlot i (s.slot i) = s := by
  simp [setSlot, slot]

@[simp] theorem setLink_self (s : State) : s.setLink s.link = s := rfl

@[simp] theorem setStaging_self (s : State) : s.setStaging s.staging = s := rfl

/-! ### Records an update of another kind leaves -/

@[simp] theorem slot_setEntry (s : State) (e : EntryId) (x : Entry) (j' : SlotId) :
    (s.setEntry e x).slot j' = s.slot j' := rfl
@[simp] theorem lineSet_setEntry (s : State) (e : EntryId) (x : Entry) (j' : SlotId) :
    (s.setEntry e x).lineSet j' = s.lineSet j' := rfl
@[simp] theorem geiLine_setEntry (s : State) (e : EntryId) (x : Entry) (m' : GeiLine) :
    (s.setEntry e x).geiLine m' = s.geiLine m' := rfl
@[simp] theorem timer_setEntry (s : State) (e : EntryId) (x : Entry) (u' : TimerId) :
    (s.setEntry e x).timer u' = s.timer u' := rfl
@[simp] theorem channel_setEntry (s : State) (e : EntryId) (x : Entry) (d' : ChannelId) :
    (s.setEntry e x).channel d' = s.channel d' := rfl
@[simp] theorem lifeOf_setEntry (s : State) (e : EntryId) (x : Entry) (j' : SlotId) :
    (s.setEntry e x).lifeOf j' = s.lifeOf j' := rfl
@[simp] theorem isPresent_setEntry (s : State) (e : EntryId) (x : Entry) (j' : SlotId) :
    (s.setEntry e x).isPresent j' = s.isPresent j' := rfl
@[simp] theorem railGood_setEntry (s : State) (e : EntryId) (x : Entry) :
    (s.setEntry e x).railGood = s.railGood := rfl
@[simp] theorem hot_setEntry (s : State) (e : EntryId) (x : Entry) :
    (s.setEntry e x).hot = s.hot := rfl
@[simp] theorem listed_setEntry (s : State) (e : EntryId) (x : Entry) (j' : SlotId) :
    (s.setEntry e x).listed j' = s.listed j' := rfl

@[simp] theorem entry_setSlot (s : State) (i : SlotId) (x : Slot) (e' : EntryId) :
    (s.setSlot i x).entry e' = s.entry e' := rfl
@[simp] theorem lineSet_setSlot (s : State) (i : SlotId) (x : Slot) (j' : SlotId) :
    (s.setSlot i x).lineSet j' = s.lineSet j' := rfl
@[simp] theorem geiLine_setSlot (s : State) (i : SlotId) (x : Slot) (m' : GeiLine) :
    (s.setSlot i x).geiLine m' = s.geiLine m' := rfl
@[simp] theorem timer_setSlot (s : State) (i : SlotId) (x : Slot) (u' : TimerId) :
    (s.setSlot i x).timer u' = s.timer u' := rfl
@[simp] theorem channel_setSlot (s : State) (i : SlotId) (x : Slot) (d' : ChannelId) :
    (s.setSlot i x).channel d' = s.channel d' := rfl
@[simp] theorem isPresent_setSlot (s : State) (i : SlotId) (x : Slot) (j' : SlotId) :
    (s.setSlot i x).isPresent j' = s.isPresent j' := rfl
@[simp] theorem railGood_setSlot (s : State) (i : SlotId) (x : Slot) :
    (s.setSlot i x).railGood = s.railGood := rfl
@[simp] theorem hot_setSlot (s : State) (i : SlotId) (x : Slot) : (s.setSlot i x).hot = s.hot := rfl
@[simp] theorem listed_setSlot (s : State) (i : SlotId) (x : Slot) (j' : SlotId) :
    (s.setSlot i x).listed j' = s.listed j' := rfl

@[simp] theorem entry_mapSlots (s : State) (f : SlotId → Slot → Slot) (e' : EntryId) :
    (s.mapSlots f).entry e' = s.entry e' := rfl
@[simp] theorem lineSet_mapSlots (s : State) (f : SlotId → Slot → Slot) (j' : SlotId) :
    (s.mapSlots f).lineSet j' = s.lineSet j' := rfl
@[simp] theorem geiLine_mapSlots (s : State) (f : SlotId → Slot → Slot) (m' : GeiLine) :
    (s.mapSlots f).geiLine m' = s.geiLine m' := rfl
@[simp] theorem timer_mapSlots (s : State) (f : SlotId → Slot → Slot) (u' : TimerId) :
    (s.mapSlots f).timer u' = s.timer u' := rfl
@[simp] theorem channel_mapSlots (s : State) (f : SlotId → Slot → Slot) (d' : ChannelId) :
    (s.mapSlots f).channel d' = s.channel d' := rfl
@[simp] theorem isPresent_mapSlots (s : State) (f : SlotId → Slot → Slot) (j' : SlotId) :
    (s.mapSlots f).isPresent j' = s.isPresent j' := rfl
@[simp] theorem railGood_mapSlots (s : State) (f : SlotId → Slot → Slot) :
    (s.mapSlots f).railGood = s.railGood := rfl
@[simp] theorem hot_mapSlots (s : State) (f : SlotId → Slot → Slot) :
    (s.mapSlots f).hot = s.hot := rfl
@[simp] theorem listed_mapSlots (s : State) (f : SlotId → Slot → Slot) (j' : SlotId) :
    (s.mapSlots f).listed j' = s.listed j' := rfl

@[simp] theorem entry_setLineSet (s : State) (i : SlotId) (x : SlotLines) (e' : EntryId) :
    (s.setLineSet i x).entry e' = s.entry e' := rfl
@[simp] theorem slot_setLineSet (s : State) (i : SlotId) (x : SlotLines) (j' : SlotId) :
    (s.setLineSet i x).slot j' = s.slot j' := rfl
@[simp] theorem geiLine_setLineSet (s : State) (i : SlotId) (x : SlotLines) (m' : GeiLine) :
    (s.setLineSet i x).geiLine m' = s.geiLine m' := rfl
@[simp] theorem timer_setLineSet (s : State) (i : SlotId) (x : SlotLines) (u' : TimerId) :
    (s.setLineSet i x).timer u' = s.timer u' := rfl
@[simp] theorem channel_setLineSet (s : State) (i : SlotId) (x : SlotLines) (d' : ChannelId) :
    (s.setLineSet i x).channel d' = s.channel d' := rfl
@[simp] theorem lifeOf_setLineSet (s : State) (i : SlotId) (x : SlotLines) (j' : SlotId) :
    (s.setLineSet i x).lifeOf j' = s.lifeOf j' := rfl
@[simp] theorem railGood_setLineSet (s : State) (i : SlotId) (x : SlotLines) :
    (s.setLineSet i x).railGood = s.railGood := rfl
@[simp] theorem hot_setLineSet (s : State) (i : SlotId) (x : SlotLines) :
    (s.setLineSet i x).hot = s.hot := rfl
@[simp] theorem listed_setLineSet (s : State) (i : SlotId) (x : SlotLines) (j' : SlotId) :
    (s.setLineSet i x).listed j' = s.listed j' := rfl

@[simp] theorem entry_setGeiLine (s : State) (n : GeiLine) (x : Line) (e' : EntryId) :
    (s.setGeiLine n x).entry e' = s.entry e' := rfl
@[simp] theorem slot_setGeiLine (s : State) (n : GeiLine) (x : Line) (j' : SlotId) :
    (s.setGeiLine n x).slot j' = s.slot j' := rfl
@[simp] theorem lineSet_setGeiLine (s : State) (n : GeiLine) (x : Line) (j' : SlotId) :
    (s.setGeiLine n x).lineSet j' = s.lineSet j' := rfl
@[simp] theorem timer_setGeiLine (s : State) (n : GeiLine) (x : Line) (u' : TimerId) :
    (s.setGeiLine n x).timer u' = s.timer u' := rfl
@[simp] theorem channel_setGeiLine (s : State) (n : GeiLine) (x : Line) (d' : ChannelId) :
    (s.setGeiLine n x).channel d' = s.channel d' := rfl
@[simp] theorem lifeOf_setGeiLine (s : State) (n : GeiLine) (x : Line) (j' : SlotId) :
    (s.setGeiLine n x).lifeOf j' = s.lifeOf j' := rfl
@[simp] theorem isPresent_setGeiLine (s : State) (n : GeiLine) (x : Line) (j' : SlotId) :
    (s.setGeiLine n x).isPresent j' = s.isPresent j' := rfl
@[simp] theorem railGood_setGeiLine (s : State) (n : GeiLine) (x : Line) :
    (s.setGeiLine n x).railGood = s.railGood := rfl
@[simp] theorem listed_setGeiLine (s : State) (n : GeiLine) (x : Line) (j' : SlotId) :
    (s.setGeiLine n x).listed j' = s.listed j' := rfl

@[simp] theorem entry_setBoard (s : State) (x : BoardLines) (e' : EntryId) :
    (s.setBoard x).entry e' = s.entry e' := rfl
@[simp] theorem slot_setBoard (s : State) (x : BoardLines) (j' : SlotId) :
    (s.setBoard x).slot j' = s.slot j' := rfl
@[simp] theorem lineSet_setBoard (s : State) (x : BoardLines) (j' : SlotId) :
    (s.setBoard x).lineSet j' = s.lineSet j' := rfl
@[simp] theorem timer_setBoard (s : State) (x : BoardLines) (u' : TimerId) :
    (s.setBoard x).timer u' = s.timer u' := rfl
@[simp] theorem channel_setBoard (s : State) (x : BoardLines) (d' : ChannelId) :
    (s.setBoard x).channel d' = s.channel d' := rfl
@[simp] theorem lifeOf_setBoard (s : State) (x : BoardLines) (j' : SlotId) :
    (s.setBoard x).lifeOf j' = s.lifeOf j' := rfl
@[simp] theorem isPresent_setBoard (s : State) (x : BoardLines) (j' : SlotId) :
    (s.setBoard x).isPresent j' = s.isPresent j' := rfl
@[simp] theorem railGood_setBoard (s : State) (x : BoardLines) :
    (s.setBoard x).railGood = s.railGood := rfl
@[simp] theorem listed_setBoard (s : State) (x : BoardLines) (j' : SlotId) :
    (s.setBoard x).listed j' = s.listed j' := rfl

@[simp] theorem entry_setStaging (s : State) (x : Staging) (e' : EntryId) :
    (s.setStaging x).entry e' = s.entry e' := rfl
@[simp] theorem slot_setStaging (s : State) (x : Staging) (j' : SlotId) :
    (s.setStaging x).slot j' = s.slot j' := rfl
@[simp] theorem lineSet_setStaging (s : State) (x : Staging) (j' : SlotId) :
    (s.setStaging x).lineSet j' = s.lineSet j' := rfl
@[simp] theorem geiLine_setStaging (s : State) (x : Staging) (m' : GeiLine) :
    (s.setStaging x).geiLine m' = s.geiLine m' := rfl
@[simp] theorem timer_setStaging (s : State) (x : Staging) (u' : TimerId) :
    (s.setStaging x).timer u' = s.timer u' := rfl
@[simp] theorem channel_setStaging (s : State) (x : Staging) (d' : ChannelId) :
    (s.setStaging x).channel d' = s.channel d' := rfl
@[simp] theorem lifeOf_setStaging (s : State) (x : Staging) (j' : SlotId) :
    (s.setStaging x).lifeOf j' = s.lifeOf j' := rfl
@[simp] theorem isPresent_setStaging (s : State) (x : Staging) (j' : SlotId) :
    (s.setStaging x).isPresent j' = s.isPresent j' := rfl
@[simp] theorem hot_setStaging (s : State) (x : Staging) : (s.setStaging x).hot = s.hot := rfl

@[simp] theorem entry_setLink (s : State) (x : Link) (e' : EntryId) :
    (s.setLink x).entry e' = s.entry e' := rfl
@[simp] theorem slot_setLink (s : State) (x : Link) (j' : SlotId) :
    (s.setLink x).slot j' = s.slot j' := rfl
@[simp] theorem lineSet_setLink (s : State) (x : Link) (j' : SlotId) :
    (s.setLink x).lineSet j' = s.lineSet j' := rfl
@[simp] theorem geiLine_setLink (s : State) (x : Link) (m' : GeiLine) :
    (s.setLink x).geiLine m' = s.geiLine m' := rfl
@[simp] theorem timer_setLink (s : State) (x : Link) (u' : TimerId) :
    (s.setLink x).timer u' = s.timer u' := rfl
@[simp] theorem channel_setLink (s : State) (x : Link) (d' : ChannelId) :
    (s.setLink x).channel d' = s.channel d' := rfl
@[simp] theorem lifeOf_setLink (s : State) (x : Link) (j' : SlotId) :
    (s.setLink x).lifeOf j' = s.lifeOf j' := rfl
@[simp] theorem isPresent_setLink (s : State) (x : Link) (j' : SlotId) :
    (s.setLink x).isPresent j' = s.isPresent j' := rfl
@[simp] theorem railGood_setLink (s : State) (x : Link) : (s.setLink x).railGood = s.railGood := rfl
@[simp] theorem hot_setLink (s : State) (x : Link) : (s.setLink x).hot = s.hot := rfl
@[simp] theorem listed_setLink (s : State) (x : Link) (j' : SlotId) :
    (s.setLink x).listed j' = s.listed j' := rfl

@[simp] theorem entry_setWakes (s : State) (x : List WakeRequest) (e' : EntryId) :
    (s.setWakes x).entry e' = s.entry e' := rfl
@[simp] theorem slot_setWakes (s : State) (x : List WakeRequest) (j' : SlotId) :
    (s.setWakes x).slot j' = s.slot j' := rfl
@[simp] theorem lineSet_setWakes (s : State) (x : List WakeRequest) (j' : SlotId) :
    (s.setWakes x).lineSet j' = s.lineSet j' := rfl
@[simp] theorem geiLine_setWakes (s : State) (x : List WakeRequest) (m' : GeiLine) :
    (s.setWakes x).geiLine m' = s.geiLine m' := rfl
@[simp] theorem timer_setWakes (s : State) (x : List WakeRequest) (u' : TimerId) :
    (s.setWakes x).timer u' = s.timer u' := rfl
@[simp] theorem channel_setWakes (s : State) (x : List WakeRequest) (d' : ChannelId) :
    (s.setWakes x).channel d' = s.channel d' := rfl
@[simp] theorem lifeOf_setWakes (s : State) (x : List WakeRequest) (j' : SlotId) :
    (s.setWakes x).lifeOf j' = s.lifeOf j' := rfl
@[simp] theorem isPresent_setWakes (s : State) (x : List WakeRequest) (j' : SlotId) :
    (s.setWakes x).isPresent j' = s.isPresent j' := rfl
@[simp] theorem railGood_setWakes (s : State) (x : List WakeRequest) :
    (s.setWakes x).railGood = s.railGood := rfl
@[simp] theorem hot_setWakes (s : State) (x : List WakeRequest) : (s.setWakes x).hot = s.hot := rfl
@[simp] theorem listed_setWakes (s : State) (x : List WakeRequest) (j' : SlotId) :
    (s.setWakes x).listed j' = s.listed j' := rfl

@[simp] theorem entry_setTimer (s : State) (t : TimerId) (x : GeneralTimer) (e' : EntryId) :
    (s.setTimer t x).entry e' = s.entry e' := rfl
@[simp] theorem slot_setTimer (s : State) (t : TimerId) (x : GeneralTimer) (j' : SlotId) :
    (s.setTimer t x).slot j' = s.slot j' := rfl
@[simp] theorem lineSet_setTimer (s : State) (t : TimerId) (x : GeneralTimer) (j' : SlotId) :
    (s.setTimer t x).lineSet j' = s.lineSet j' := rfl
@[simp] theorem geiLine_setTimer (s : State) (t : TimerId) (x : GeneralTimer) (m' : GeiLine) :
    (s.setTimer t x).geiLine m' = s.geiLine m' := rfl
@[simp] theorem channel_setTimer (s : State) (t : TimerId) (x : GeneralTimer) (d' : ChannelId) :
    (s.setTimer t x).channel d' = s.channel d' := rfl
@[simp] theorem lifeOf_setTimer (s : State) (t : TimerId) (x : GeneralTimer) (j' : SlotId) :
    (s.setTimer t x).lifeOf j' = s.lifeOf j' := rfl
@[simp] theorem isPresent_setTimer (s : State) (t : TimerId) (x : GeneralTimer) (j' : SlotId) :
    (s.setTimer t x).isPresent j' = s.isPresent j' := rfl
@[simp] theorem railGood_setTimer (s : State) (t : TimerId) (x : GeneralTimer) :
    (s.setTimer t x).railGood = s.railGood := rfl
@[simp] theorem hot_setTimer (s : State) (t : TimerId) (x : GeneralTimer) :
    (s.setTimer t x).hot = s.hot := rfl
@[simp] theorem listed_setTimer (s : State) (t : TimerId) (x : GeneralTimer) (j' : SlotId) :
    (s.setTimer t x).listed j' = s.listed j' := rfl

@[simp] theorem entry_setChannel (s : State) (c : ChannelId) (x : Channel) (e' : EntryId) :
    (s.setChannel c x).entry e' = s.entry e' := by cases c <;> rfl
@[simp] theorem slot_setChannel (s : State) (c : ChannelId) (x : Channel) (j' : SlotId) :
    (s.setChannel c x).slot j' = s.slot j' := by cases c <;> rfl
@[simp] theorem lineSet_setChannel (s : State) (c : ChannelId) (x : Channel) (j' : SlotId) :
    (s.setChannel c x).lineSet j' = s.lineSet j' := by cases c <;> rfl
@[simp] theorem geiLine_setChannel (s : State) (c : ChannelId) (x : Channel) (m' : GeiLine) :
    (s.setChannel c x).geiLine m' = s.geiLine m' := by cases c <;> rfl
@[simp] theorem timer_setChannel (s : State) (c : ChannelId) (x : Channel) (u' : TimerId) :
    (s.setChannel c x).timer u' = s.timer u' := by cases c <;> rfl
@[simp] theorem lifeOf_setChannel (s : State) (c : ChannelId) (x : Channel) (j' : SlotId) :
    (s.setChannel c x).lifeOf j' = s.lifeOf j' := by cases c <;> rfl
@[simp] theorem isPresent_setChannel (s : State) (c : ChannelId) (x : Channel) (j' : SlotId) :
    (s.setChannel c x).isPresent j' = s.isPresent j' := by cases c <;> rfl
@[simp] theorem railGood_setChannel (s : State) (c : ChannelId) (x : Channel) :
    (s.setChannel c x).railGood = s.railGood := by cases c <;> rfl
@[simp] theorem hot_setChannel (s : State) (c : ChannelId) (x : Channel) :
    (s.setChannel c x).hot = s.hot := by cases c <;> rfl
@[simp] theorem listed_setChannel (s : State) (c : ChannelId) (x : Channel) (j' : SlotId) :
    (s.setChannel c x).listed j' = s.listed j' := by cases c <;> rfl

end Sys2Proof.Machine.State
end

