-- ==== Sys2Proof/Laws/Outside.lean ====
section
/-! SUPPORT. What the seven blocks' operations on events, channels, slots and staging leave outside
themselves: one lemma per operation. `outside` gathers the parts of State that only the commands of their
own (pins, time base, timers, link, sessions, the queue of commands) write. -/

namespace Sys2Proof.Machine

/-- A projection that every step of a fold keeps is kept by the fold. -/
theorem foldl_keeps {α β : Type} (p : State → β) (f : State → α → State)
    (h : ∀ s a, p (f s a) = p s) (l : List α) (s : State) : p (l.foldl f s) = p s := by
  induction l generalizing s with
  | nil => rfl
  | cons a l ih => simp [ih, h]

/-! ### What equal outsides say, field by field -/

theorem phase_of_outside {s t : State} (h : t.outside = s.outside) : t.phase = s.phase :=
  congrArg Outside.phase h

theorem straps_of_outside {s t : State} (h : t.outside = s.outside) : t.straps = s.straps :=
  congrArg Outside.straps h

theorem board_of_outside {s t : State} (h : t.outside = s.outside) : t.board = s.board :=
  congrArg Outside.board h

theorem lines_of_outside {s t : State} (h : t.outside = s.outside) : t.lines = s.lines :=
  congrArg Outside.lines h

theorem uptime_of_outside {s t : State} (h : t.outside = s.outside) : t.uptime = s.uptime :=
  congrArg Outside.uptime h

theorem timers_of_outside {s t : State} (h : t.outside = s.outside) : t.timers = s.timers :=
  congrArg Outside.timers h

theorem link_of_outside {s t : State} (h : t.outside = s.outside) : t.link = s.link :=
  congrArg Outside.link h

theorem session_of_outside {s t : State} (h : t.outside = s.outside) : t.session = s.session :=
  congrArg Outside.session h

theorem pending_of_outside {s t : State} (h : t.outside = s.outside) : t.pending = s.pending :=
  congrArg Outside.pending h

theorem choices_of_outside {s t : State} (h : t.outside = s.outside) : t.choices = s.choices :=
  congrArg Outside.choices h

/-! ### Updates -/

@[simp] theorem setEntry_outside (s : State) (e : EntryId) (x : Entry) : (s.setEntry e x).outside = s.outside := rfl
@[simp] theorem setSlot_outside (s : State) (i : SlotId) (x : Slot) : (s.setSlot i x).outside = s.outside := rfl
@[simp] theorem mapSlots_outside (s : State) (f : SlotId → Slot → Slot) : (s.mapSlots f).outside = s.outside := rfl
@[simp] theorem setStaging_outside (s : State) (x : Staging) : (s.setStaging x).outside = s.outside := rfl
@[simp] theorem setWakes_outside (s : State) (x : List WakeRequest) : (s.setWakes x).outside = s.outside := rfl
@[simp] theorem setChannel_outside (s : State) (c : ChannelId) (x : Channel) :
    (s.setChannel c x).outside = s.outside := by cases c <;> rfl
@[simp] theorem dropPending_outside (e : EntryId) (s : State) :
    (dropPending e s).outside = s.outside := rfl

/-! ### Notice Channels (spec 02) -/

@[simp] theorem compose_outside (c : ChannelId) (s : State) : (compose c s).outside = s.outside := by
  unfold compose; split <;> simp

@[simp] theorem joinTail_outside (c : ChannelId) (e : EntryId) (s : State) :
    (joinTail c e s).outside = s.outside := by simp [joinTail]

@[simp] theorem joinIfUnplaced_outside (e : EntryId) (s : State) :
    (joinIfUnplaced e s).outside = s.outside := by
  unfold joinIfUnplaced; split
  · split <;> simp
  · rfl

@[simp] theorem returnEntries_outside (c : ChannelId) (s : State) :
    (returnEntries c s).outside = s.outside := by
  simp only [returnEntries]
  rw [foldl_keeps State.outside _ (fun s e => joinTail_outside _ e s)]
  simp

@[simp] theorem endNotice_outside (c : ChannelId) (target : ChannelState) (s : State) :
    (endNotice c target s).outside = s.outside := by simp [endNotice]

@[simp] theorem settleNotice_outside (c : ChannelId) (s : State) :
    (settleNotice c s).outside = s.outside := by simp [settleNotice]

@[simp] theorem stall_outside (c : ChannelId) (s : State) : (stall c s).outside = s.outside := by
  simp [stall]

@[simp] theorem offerRunsOut_outside (c : ChannelId) (s : State) :
    (offerRunsOut c s).outside = s.outside := by
  simp only [offerRunsOut]; split
  · split <;> simp
  · rfl

@[simp] theorem serviceRunsOut_outside (c : ChannelId) (s : State) :
    (serviceRunsOut c s).outside = s.outside := by
  simp only [serviceRunsOut]; split <;> simp

/-! ### The Event Table (spec 01) -/

@[simp] theorem adjustHolds_outside (old new : SlotSet) (s : State) :
    (adjustHolds old new s).outside = s.outside := by simp [adjustHolds]

@[simp] theorem replaceEntry_outside (e : EntryId) (x : Entry) (s : State) :
    (replaceEntry e x s).outside = s.outside := by simp [replaceEntry]

@[simp] theorem sendWakes_outside (set : SlotSet) (s : State) :
    (sendWakes set s).outside = s.outside := by simp [sendWakes]

@[simp] theorem occur_outside (e : EntryId) (detail : Option Half) (s : State) :
    (occur e detail s).outside = s.outside := by
  simp only [occur]; split <;> simp

@[simp] theorem edgeAt_outside (e : EntryId) (rising : Bool) (s : State) :
    (edgeAt e rising s).outside = s.outside := by unfold edgeAt; split <;> simp

@[simp] theorem clearEntry_outside (e : EntryId) (s : State) :
    (clearEntry e s).outside = s.outside := by unfold clearEntry; split <;> simp

@[simp] theorem clearSession_outside (s : State) : (clearSession s).outside = s.outside :=
  foldl_keeps State.outside _ (fun s e => clearEntry_outside e s) _ s

@[simp] theorem replace_outside (e : EntryId) (s : State) : (replace e s).outside = s.outside := by
  simp only [replace]; split
  · split <;> simp
  · simp

@[simp] theorem reconfigure_outside (e : EntryId) (new : Entry) (s : State) :
    (reconfigure e new s).outside = s.outside := by
  simp only [reconfigure]; split <;> simp

/-! ### Slot transitions (spec 03, 04) -/

@[simp] theorem enter_outside (i : SlotId) (target : LifeState) (cause : Cause)
    (step : Option StepTimer) (s : State) :
    (enter i target cause step s).outside = s.outside := by
  simp only [enter]; split <;> simp

@[simp] theorem enqueue_outside (i : SlotId) (origin : QueueOrigin) (s : State) :
    (enqueue i origin s).outside = s.outside := by simp [enqueue]

@[simp] theorem beginReleasing_outside (i : SlotId) (s : State) :
    (beginReleasing i s).outside = s.outside := by simp [beginReleasing]

@[simp] theorem beginPowering_outside (i : SlotId) (cause : Cause) (s : State) :
    (beginPowering i cause s).outside = s.outside := by
  simp only [beginPowering]; split <;> simp

@[simp] theorem releaseHead_outside (s : State) : (releaseHead s).outside = s.outside := by
  unfold releaseHead; split <;> simp

@[simp] theorem endWaking_outside (i : SlotId) (s : State) :
    (endWaking i s).outside = s.outside := by simp [endWaking]

@[simp] theorem secondStepOfWaking_outside (i : SlotId) (s : State) :
    (secondStepOfWaking i s).outside = s.outside := by
  simp only [secondStepOfWaking]; split <;> simp

@[simp] theorem beginWaking_outside (i : SlotId) (cause : Cause) (s : State) :
    (beginWaking i cause s).outside = s.outside := by
  simp only [beginWaking]; split <;> simp

@[simp] theorem readyInEntering_outside (i : SlotId) (s : State) :
    (readyInEntering i s).outside = s.outside := by unfold readyInEntering; split <;> simp

@[simp] theorem beginEntering_outside (i : SlotId) (cause : Cause) (s : State) :
    (beginEntering i cause s).outside = s.outside := by
  simp only [beginEntering]; split <;> simp

@[simp] theorem endStopping_outside (i : SlotId) (s : State) :
    (endStopping i s).outside = s.outside := by simp [endStopping]

@[simp] theorem beginStopping_outside (i : SlotId) (cause : Cause) (s : State) :
    (beginStopping i cause s).outside = s.outside := by
  simp only [beginStopping]; split <;> simp

@[simp] theorem beginResetting_outside (i : SlotId) (s : State) :
    (beginResetting i s).outside = s.outside := by simp [beginResetting]

@[simp] theorem beginSleepWait_outside (i : SlotId) (origin : SleepOrigin) (s : State) :
    (beginSleepWait i origin s).outside = s.outside := by
  simp only [beginSleepWait]; split <;> simp

@[simp] theorem requestSleep_outside (i : SlotId) (origin : SleepOrigin) (s : State) :
    (requestSleep i origin s).outside = s.outside := by unfold requestSleep; split <;> simp

@[simp] theorem releaseSleep_outside (s : State) (i : SlotId) :
    (releaseSleep s i).outside = s.outside := by unfold releaseSleep; split <;> simp

@[simp] theorem releaseSleeps_outside (s : State) : (releaseSleeps s).outside = s.outside :=
  foldl_keeps State.outside releaseSleep releaseSleep_outside _ s

@[simp] theorem wakeFromOff_outside (i : SlotId) (origin : WakeOrigin) (s : State) :
    (wakeFromOff i origin s).outside = s.outside := by unfold wakeFromOff; split <;> simp

@[simp] theorem wake_outside (i : SlotId) (origin : WakeOrigin) (s : State) :
    (wake i origin s).outside = s.outside := by
  unfold wake; split
  · rfl
  · split <;> simp

@[simp] theorem unlist_outside (i : SlotId) (s : State) : (unlist i s).outside = s.outside := by
  simp [unlist]

@[simp] theorem restoreNext_outside (s : State) : (restoreNext s).outside = s.outside := by
  simp only [restoreNext]; split
  · simp
  · split
    · rw [wake_outside]; split <;> simp
    · split
      · rw [enqueue_outside]; split <;> simp
      · simp
    · simp

/-- The finish of a step touches nothing outside. -/
theorem nextBusiness_outside {s t : State} (h : nextBusiness s = some t) :
    t.outside = s.outside := by
  unfold nextBusiness at h
  split at h
  · cases h; simp
  · split at h
    · cases h
    · cases h; simp

@[simp] theorem drain_outside (n : Nat) (s : State) : (drain n s).outside = s.outside := by
  induction n generalizing s with
  | zero => rfl
  | succ n ih =>
    unfold drain; split
    · rename_i h; rw [ih, nextBusiness_outside h]
    · rfl

@[simp] theorem finish_outside (s : State) : (finish s).outside = s.outside := by simp [finish]

/-! ### Lines, limits and buttons of a slot (spec 03, 04, 05) -/

@[simp] theorem pgoodRises_outside (i : SlotId) (s : State) :
    (pgoodRises i s).outside = s.outside := by
  unfold pgoodRises; split
  · simp
  · split <;> simp
  all_goals rfl

@[simp] theorem pgoodFalls_outside (i : SlotId) (s : State) :
    (pgoodFalls i s).outside = s.outside := by unfold pgoodFalls; split <;> simp

@[simp] theorem rdyRises_outside (i : SlotId) (s : State) :
    (rdyRises i s).outside = s.outside := by unfold rdyRises; split <;> simp

@[simp] theorem rdyFalls_outside (i : SlotId) (s : State) :
    (rdyFalls i s).outside = s.outside := by unfold rdyFalls; split <;> simp

@[simp] theorem presenceRecorded_outside (i : SlotId) (cause : Cause) (s : State) :
    (presenceRecorded i cause s).outside = s.outside := by simp [presenceRecorded]

@[simp] theorem moduleRemoved_outside (i : SlotId) (s : State) :
    (moduleRemoved i s).outside = s.outside := by unfold moduleRemoved; split <;> simp

@[simp] theorem moduleInserted_outside (i : SlotId) (s : State) :
    (moduleInserted i s).outside = s.outside := by simp [moduleInserted]

@[simp] theorem powerUpRunsOut_outside (i : SlotId) (s : State) :
    (powerUpRunsOut i s).outside = s.outside := by unfold powerUpRunsOut; split <;> simp

@[simp] theorem resetHoldRunsOut_outside (i : SlotId) (s : State) :
    (resetHoldRunsOut i s).outside = s.outside := by unfold resetHoldRunsOut; split <;> simp

@[simp] theorem resettingRunsOut_outside (i : SlotId) (s : State) :
    (resettingRunsOut i s).outside = s.outside := by unfold resettingRunsOut; split <;> simp

@[simp] theorem stopRunsOut_outside (i : SlotId) (s : State) :
    (stopRunsOut i s).outside = s.outside := by unfold stopRunsOut; split <;> simp

@[simp] theorem sleepEntryRunsOut_outside (i : SlotId) (s : State) :
    (sleepEntryRunsOut i s).outside = s.outside := by unfold sleepEntryRunsOut; split <;> simp

@[simp] theorem wakingPowerUpRunsOut_outside (i : SlotId) (s : State) :
    (wakingPowerUpRunsOut i s).outside = s.outside := by unfold wakingPowerUpRunsOut; split <;> simp

@[simp] theorem wakeRunsOut_outside (i : SlotId) (s : State) :
    (wakeRunsOut i s).outside = s.outside := by unfold wakeRunsOut; split <;> simp

@[simp] theorem sleepLineRises_outside (i : SlotId) (s : State) :
    (sleepLineRises i s).outside = s.outside := by unfold sleepLineRises; split <;> simp

@[simp] theorem holdWaitRunsOut_outside (i : SlotId) (s : State) :
    (holdWaitRunsOut i s).outside = s.outside := by
  simp only [holdWaitRunsOut]; split
  · split <;> simp
  · rfl

@[simp] theorem applyVerdict_outside (i : SlotId) (v : Verdict) (s : State) :
    (applyVerdict i v s).outside = s.outside := by simp only [applyVerdict]; split <;> simp

@[simp] theorem verdictRunsOut_outside (i : SlotId) (s : State) :
    (verdictRunsOut i s).outside = s.outside := by simp only [verdictRunsOut]; split <;> simp

@[simp] theorem idleRunsOut_outside (i : SlotId) (s : State) :
    (idleRunsOut i s).outside = s.outside := by simp only [idleRunsOut]; split <;> simp

@[simp] theorem activity_outside (i : SlotId) (s : State) :
    (activity i s).outside = s.outside := by simp only [activity]; split <;> simp

@[simp] theorem heartbeatRises_outside (i : SlotId) (s : State) :
    (heartbeatRises i s).outside = s.outside := by simp only [heartbeatRises]; split <;> simp

@[simp] theorem heartbeatRunsOut_outside (i : SlotId) (s : State) :
    (heartbeatRunsOut i s).outside = s.outside := by
  simp only [heartbeatRunsOut, firstExpiry, recover]; split
  · split
    · simp
    · split <;> simp
  · rfl

@[simp] theorem pressActs_outside (i : SlotId) (s : State) :
    (pressActs i s).outside = s.outside := by
  unfold pressActs; split
  · split <;> simp
  all_goals simp

@[simp] theorem startHold_outside (i : SlotId) (s : State) :
    (startHold i s).outside = s.outside := by simp [startHold]

@[simp] theorem buttonPressed_outside (i : SlotId) (s : State) :
    (buttonPressed i s).outside = s.outside := by simp [buttonPressed]

@[simp] theorem stopHold_outside (i : SlotId) (s : State) :
    (stopHold i s).outside = s.outside := by simp [stopHold]

@[simp] theorem overrideSlot_outside (i : SlotId) (s : State) :
    (overrideSlot i s).outside = s.outside := by simp [overrideSlot]

@[simp] theorem holdRunsOut_outside (i : SlotId) (s : State) :
    (holdRunsOut i s).outside = s.outside := by
  simp only [holdRunsOut]; split
  · rfl
  · split <;> simp

/-! ### The Staging Unit (spec 06) -/

@[simp] theorem staggerRunsOut_outside (s : State) : (staggerRunsOut s).outside = s.outside := by
  simp [staggerRunsOut]

@[simp] theorem headOffTimeElapses_outside (s : State) :
    (headOffTimeElapses s).outside = s.outside := by
  unfold headOffTimeElapses; split <;> simp

@[simp] theorem railTakes_outside (s : State) (i : SlotId) :
    (railTakes s i).outside = s.outside := by unfold railTakes; split <;> simp

@[simp] theorem railLost_outside (s : State) : (railLost s).outside = s.outside := by
  simp only [railLost, occur_outside, setStaging_outside]
  exact foldl_keeps State.outside _ railTakes_outside _ _

@[simp] theorem mainGoodFalls_outside (s : State) : (mainGoodFalls s).outside = s.outside := by
  unfold mainGoodFalls; split <;> simp

@[simp] theorem resume_outside (o : QueueOrigin) (s : State) (i : SlotId) :
    (resume o s i).outside = s.outside := by
  unfold resume; split
  · split <;> simp
  · rfl

@[simp] theorem railReturns_outside (s : State) : (railReturns s).outside = s.outside := by
  simp only [railReturns]
  split <;> simp only [setStaging_outside, occur_outside, mapSlots_outside] <;>
    rw [foldl_keeps State.outside _ (resume_outside _)] <;> simp

@[simp] theorem mainGoodRises_outside (s : State) : (mainGoodRises s).outside = s.outside := by
  unfold mainGoodRises; split
  · split <;> simp
  · rfl

@[simp] theorem settleRunsOut_outside (s : State) : (settleRunsOut s).outside = s.outside := by
  unfold settleRunsOut; split <;> simp

@[simp] theorem shedSlot_outside (s : State) (i : SlotId) : (shedSlot s i).outside = s.outside := by
  simp only [shedSlot]; split <;> simp

@[simp] theorem escalate_outside (s : State) : (escalate s).outside = s.outside := by
  simp only [escalate]; split
  · simp
  · simp only [setStaging_outside]; rw [foldl_keeps State.outside _ shedSlot_outside]; simp

@[simp] theorem escalationRunsOut_outside (s : State) :
    (escalationRunsOut s).outside = s.outside := by unfold escalationRunsOut; split <;> simp

@[simp] theorem thermRises_outside (s : State) : (thermRises s).outside = s.outside := by
  simp only [thermRises, latchThermal]; split <;> simp

@[simp] theorem thermFalls_outside (s : State) : (thermFalls s).outside = s.outside := by
  simp [thermFalls]

@[simp] theorem coolRunsOut_outside (s : State) : (coolRunsOut s).outside = s.outside := by
  simp only [coolRunsOut]; split <;> simp

@[simp] theorem discardHostHolds_outside (s : State) :
    (discardHostHolds s).outside = s.outside := by simp [discardHostHolds]

@[simp] theorem restartChannels_outside (s : State) :
    (restartChannels s).outside = s.outside := rfl

end Sys2Proof.Machine
end

