-- ==== Sys2Proof/Laws/Link.lean ====
section
/-! SUPPORT. How a command reaches its effect: the calm finish, the arbiter, the way a command that is
attended to concludes, and the way a request that is listened to is answered. -/

namespace Sys2Proof.Machine

/-! ### The finish of a calm state -/

/-- What the finish of a step does to a calm state: nothing. -/
theorem finish_of_calm {s : State} (h : s.calm) : finish s = s := by
  obtain ⟨hw, hr, hs, hq⟩ := h
  have hl : releaseSleeps s = s := by simp [releaseSleeps, hs]
  have hb : nextBusiness s = none := by simp [nextBusiness, hr, hw]
  have hd : drain Config.drainFuel s = s := by
    unfold Config.drainFuel drain; simp [hb]
  simp [finish, hl, hd, releaseHead, hq]

/-- Calm looks at no part of the link. -/
theorem calm_setLink {s : State} (x : Link) (h : s.calm) : (s.setLink x).calm := h

/-! ### The arbiter -/

/-- What the arbiter leaves: everything but the transmit line, the waiting reply and the waiting
sendings. -/
theorem arbitrate_keeps (s : State) :
    (arbitrate s).phase = s.phase ∧ (arbitrate s).pending = s.pending ∧
      (arbitrate s).slots = s.slots ∧ (arbitrate s).entries = s.entries ∧
      (arbitrate s).staging = s.staging ∧ (arbitrate s).timers = s.timers ∧
      (arbitrate s).uptime = s.uptime ∧ (arbitrate s).session = s.session ∧
      (arbitrate s).lines = s.lines ∧ (arbitrate s).board = s.board ∧
      (arbitrate s).straps = s.straps ∧ (arbitrate s).wakes = s.wakes ∧
      (arbitrate s).choices = s.choices ∧ (arbitrate s).link.queue = s.link.queue ∧
      (arbitrate s).link.cache = s.link.cache ∧ (arbitrate s).link.greeted = s.link.greeted ∧
      (arbitrate s).link.restartPending = s.link.restartPending := by
  unfold arbitrate
  split
  · split
    · simp
    · split
      · simp [beginNotice]
      · split <;> simp [beginNotice]
  all_goals simp

/-- Whether a request can be taken is read from the link alone. -/
theorem takeable_of_link {s t : State} (h : t.link = s.link) : t.takeable = s.takeable := by
  simp [State.takeable, h]

/-- The arbiter begins no reply where none waits at an idle line, so nothing becomes takeable. -/
theorem takeable_arbitrate {s : State} (h : s.takeable = none)
    (hr : s.link.tx = .idle → s.link.replyWaiting = none) : (arbitrate s).takeable = none := by
  unfold arbitrate
  split
  · rename_i htx
    rw [hr htx]
    have key : ∀ c : ChannelId, (beginNotice c s).takeable = none := by
      intro c
      simpa [State.takeable, beginNotice] using h
    dsimp only
    split
    · exact key _
    · split
      · exact key _
      · exact h
  all_goals exact h

/-- With nothing to take, the turn of the link is the arbiter's alone. -/
theorem pump_eq_arbitrate {u : State} (n : Nat) (h : u.takeable = none)
    (hr : u.link.tx = .idle → u.link.replyWaiting = none) : pump n u = arbitrate u := by
  cases n with
  | zero => rfl
  | succ n => simp [pump, takeable_arbitrate h hr]

/-! ### A command that is attended to -/

/-- A command whose own effect leaves the link concludes with what follows on it. -/
theorem conclude_of_attending {f : State → State} {s : State} (h : s.attending)
    (hf : (f s).link = s.link) : conclude f s = (f s).followed := by
  obtain ⟨-, ht, hr⟩ := h
  have hl : (finish (f s)).link = s.link := by
    rw [link_of_outside (finish_outside (f s)), hf]
  unfold conclude
  rw [pump_eq_arbitrate]
  · rfl
  · rw [takeable_of_link hl]; exact ht
  · rw [hl]; exact hr

/-- A command whose own effect leaves the link, at a part that attends to it. -/
theorem run_of_attending {f : State → State} {s : State} (h : s.attending)
    (hf : (f s).link = s.link) : run f s = .next (f s).followed := by
  simp [run, h.1, conclude_of_attending h hf]

/-- The same, by the outside. -/
theorem run_of_outside {f : State → State} {s : State} (h : s.attending)
    (hf : (f s).outside = s.outside) : run f s = .next (f s).followed :=
  run_of_attending h (link_of_outside hf)

/-- A command at a part that does not run does nothing. -/
theorem run_of_not_running {f : State → State} {s : State} (h : s.phase ≠ .running) :
    run f s = .next s := by simp [run, h]

/-! ### A request that is listened to -/

/-- A meaning's answer leaves the link but for the greeted flag and the restart-pending mark. -/
def Answered.keepsLink (d : Answered) (s : State) : Prop :=
  ∃ g r, d.state.link = { s.link with greeted := g, restartPending := r }

theorem keepsLink_of_eq {d : Answered} {s : State} (h : d.state.link = s.link) : d.keepsLink s :=
  ⟨s.link.greeted, s.link.restartPending, by rw [h]⟩

theorem answer_keepsLink {r : Result} {s t : State} (h : t.link = s.link) :
    (answer r t).keepsLink s := keepsLink_of_eq h

theorem answerWith_keepsLink {r : Result} {v : List Byte} {s t : State} (h : t.link = s.link) :
    (answerWith r v t).keepsLink s := keepsLink_of_eq h

theorem onSlot_keepsLink {args : List Byte} {s : State} {f : SlotId → State → Answered}
    (h : ∀ i, (f i s).keepsLink s) : (onSlot args s f).keepsLink s := by
  unfold onSlot
  repeat' first | split | dsimp only
  all_goals first | exact h _ | exact answer_keepsLink rfl

theorem onSlotWith_keepsLink {α : Type} {field : Byte → Option α} {args : List Byte} {s : State}
    {f : SlotId → α → State → Answered} (h : ∀ i v, (f i v s).keepsLink s) :
    (onSlotWith field args s f).keepsLink s := by
  unfold onSlotWith
  repeat' first | split | dsimp only
  all_goals first | exact h _ _ | exact answer_keepsLink rfl

theorem carriedOut_keepsLink {i : SlotId} {r : Result} {s t : State} (h : t.outside = s.outside) :
    (carriedOut i r t).keepsLink s :=
  answer_keepsLink (by rw [link_of_outside (unlist_outside i t), link_of_outside h])

/-! ### Every owner keeps the link -/

theorem foldl_outside {α : Type} {f : State → α → State} (h : ∀ s a, (f s a).outside = s.outside)
    (l : List α) (s : State) : (l.foldl f s).outside = s.outside := foldl_keeps State.outside f h l s

theorem eventConfig_keepsLink (args : List Byte) (s : State) : (eventConfig args s).keepsLink s := by
  unfold eventConfig
  repeat' first | split | dsimp only
  all_goals first
    | exact answer_keepsLink rfl
    | exact answer_keepsLink (link_of_outside (reconfigure_outside _ _ _))

theorem eventClear_keepsLink (args : List Byte) (s : State) : (eventClear args s).keepsLink s := by
  unfold eventClear
  repeat' first | split | dsimp only
  all_goals first
    | exact answer_keepsLink rfl
    | exact answerWith_keepsLink
        (link_of_outside (foldl_outside (fun s e => clearEntry_outside e s) _ _))

theorem eventPost_keepsLink (args : List Byte) (s : State) : (eventPost args s).keepsLink s := by
  unfold eventPost
  repeat' first | split | dsimp only
  all_goals first
    | exact answer_keepsLink rfl
    | exact answer_keepsLink (link_of_outside (occur_outside _ _ _))

theorem eventRead_keepsLink (args : List Byte) (s : State) : (eventRead args s).keepsLink s := by
  unfold eventRead
  repeat' first | split | dsimp only
  all_goals first
    | exact answer_keepsLink rfl
    | exact answerWith_keepsLink rfl

theorem eventList_keepsLink (args : List Byte) (s : State) : (eventList args s).keepsLink s := by
  unfold eventList
  repeat' first | split | dsimp only
  all_goals first
    | exact answer_keepsLink rfl
    | exact answerWith_keepsLink rfl

theorem inputConfig_keepsLink (args : List Byte) (s : State) : (inputConfig args s).keepsLink s := by
  unfold inputConfig
  repeat' first | split | dsimp only
  all_goals exact answer_keepsLink rfl

theorem inputRead_keepsLink (args : List Byte) (s : State) : (inputRead args s).keepsLink s := by
  unfold inputRead
  repeat' first | split | dsimp only
  all_goals first
    | exact answer_keepsLink rfl
    | exact answerWith_keepsLink rfl

theorem stageConfig_keepsLink (args : List Byte) (s : State) : (stageConfig args s).keepsLink s := by
  unfold stageConfig
  repeat' first | split | dsimp only
  all_goals exact answer_keepsLink rfl

theorem stageRead_keepsLink (args : List Byte) (s : State) : (stageRead args s).keepsLink s := by
  unfold stageRead
  repeat' first | split | dsimp only
  all_goals first
    | exact answer_keepsLink rfl
    | exact answerWith_keepsLink rfl

theorem timerStart_keepsLink (args : List Byte) (s : State) : (timerStart args s).keepsLink s := by
  unfold timerStart
  repeat' first | split | dsimp only
  all_goals exact answer_keepsLink rfl

theorem timerStop_keepsLink (args : List Byte) (s : State) : (timerStop args s).keepsLink s := by
  unfold timerStop
  repeat' first | split | dsimp only
  all_goals exact answer_keepsLink rfl

theorem timerRead_keepsLink (args : List Byte) (s : State) : (timerRead args s).keepsLink s := by
  unfold timerRead
  repeat' first | split | dsimp only
  all_goals first
    | exact answer_keepsLink rfl
    | exact answerWith_keepsLink rfl

theorem status_keepsLink (args : List Byte) (s : State) : (status args s).keepsLink s := by
  unfold status
  repeat' first | split | dsimp only
  all_goals first
    | exact answer_keepsLink rfl
    | exact answerWith_keepsLink rfl

theorem channelOpen_keepsLink (args : List Byte) (s : State) : (channelOpen args s).keepsLink s := by
  unfold channelOpen
  repeat' first | split | dsimp only
  all_goals first
    | exact answer_keepsLink rfl
    | exact answer_keepsLink (link_of_outside (by simp))

theorem channelClose_keepsLink (args : List Byte) (s : State) :
    (channelClose args s).keepsLink s := by
  unfold channelClose
  repeat' first | split | dsimp only
  all_goals first
    | exact answer_keepsLink rfl
    | exact answer_keepsLink (link_of_outside (by simp))

theorem acceptNotice_keepsLink (args : List Byte) (s : State) :
    (acceptNotice args s).keepsLink s := by
  unfold acceptNotice
  repeat' first | split | dsimp only
  all_goals first
    | exact answer_keepsLink rfl
    | exact answer_keepsLink (link_of_outside (by simp))

theorem settleRequest_keepsLink (args : List Byte) (s : State) :
    (settleRequest args s).keepsLink s := by
  unfold settleRequest
  repeat' first | split | dsimp only
  all_goals first
    | exact answer_keepsLink rfl
    | exact answer_keepsLink (link_of_outside (by simp))

theorem slotConfig_keepsLink (args : List Byte) (s : State) : (slotConfig args s).keepsLink s := by
  unfold slotConfig
  repeat' first | split | dsimp only
  all_goals exact answer_keepsLink rfl

theorem shedConfig_keepsLink (args : List Byte) (s : State) : (shedConfig args s).keepsLink s := by
  unfold shedConfig
  dsimp only
  repeat' first | split | dsimp only
  all_goals first
    | exact answer_keepsLink rfl
    | exact answer_keepsLink (link_of_outside (by simp))

theorem slotRead_keepsLink (args : List Byte) (s : State) : (slotRead args s).keepsLink s := by
  refine onSlot_keepsLink fun i => ?_
  all_goals first
    | exact answer_keepsLink rfl
    | exact answerWith_keepsLink rfl

theorem slotOn_keepsLink (args : List Byte) (s : State) : (slotOn args s).keepsLink s := by
  refine onSlot_keepsLink fun i => ?_
  repeat' first | split | dsimp only
  all_goals exact answer_keepsLink rfl

theorem slotStop_keepsLink (args : List Byte) (s : State) : (slotStop args s).keepsLink s := by
  refine onSlot_keepsLink fun i => ?_
  repeat' first | split | dsimp only
  all_goals first
    | exact answer_keepsLink rfl
    | exact answerWith_keepsLink rfl
    | exact answer_keepsLink (link_of_outside (by simp))

theorem slotCut_keepsLink (args : List Byte) (s : State) : (slotCut args s).keepsLink s := by
  refine onSlot_keepsLink fun i => ?_
  repeat' first | split | dsimp only
  all_goals first
    | exact answer_keepsLink rfl
    | exact answerWith_keepsLink rfl
    | exact answer_keepsLink (link_of_outside (by simp))

theorem slotReset_keepsLink (args : List Byte) (s : State) : (slotReset args s).keepsLink s := by
  refine onSlot_keepsLink fun i => ?_
  repeat' first | split | dsimp only
  all_goals exact answer_keepsLink rfl

theorem slotFaultClear_keepsLink (args : List Byte) (s : State) : (slotFaultClear args s).keepsLink s := by
  refine onSlot_keepsLink fun i => ?_
  repeat' first | split | dsimp only
  all_goals first
    | exact answer_keepsLink rfl
    | exact answerWith_keepsLink rfl
    | exact answer_keepsLink (link_of_outside (by simp))

theorem slotWake_keepsLink (args : List Byte) (s : State) : (slotWake args s).keepsLink s := by
  refine onSlot_keepsLink fun i => ?_
  repeat' first | split | dsimp only
  all_goals first
    | exact answer_keepsLink rfl
    | exact answerWith_keepsLink rfl
    | exact answer_keepsLink (link_of_outside (by simp))

theorem slotHold_keepsLink (args : List Byte) (s : State) : (slotHold args s).keepsLink s := by
  refine onSlot_keepsLink fun i => ?_
  repeat' first | split | dsimp only
  all_goals exact answer_keepsLink rfl

theorem slotUnhold_keepsLink (args : List Byte) (s : State) : (slotUnhold args s).keepsLink s := by
  refine onSlot_keepsLink fun i => ?_
  repeat' first | split | dsimp only
  all_goals exact answer_keepsLink rfl

theorem slotKick_keepsLink (args : List Byte) (s : State) : (slotKick args s).keepsLink s := by
  refine onSlot_keepsLink fun i => ?_
  repeat' first | split | dsimp only
  all_goals exact answer_keepsLink rfl

theorem slotSleep_keepsLink (args : List Byte) (s : State) : (slotSleep args s).keepsLink s := by
  refine onSlotWith_keepsLink fun i v => ?_
  repeat' first | split | dsimp only
  all_goals first
    | exact answer_keepsLink rfl
    | exact carriedOut_keepsLink (by simp)

theorem slotVerdict_keepsLink (args : List Byte) (s : State) : (slotVerdict args s).keepsLink s := by
  refine onSlotWith_keepsLink fun i v => ?_
  repeat' first | split | dsimp only
  all_goals first
    | exact answer_keepsLink rfl
    | exact carriedOut_keepsLink (by simp)

theorem slotRecoveryClear_keepsLink (args : List Byte) (s : State) : (slotRecoveryClear args s).keepsLink s := by
  refine onSlotWith_keepsLink fun i v => ?_
  repeat' first | split | dsimp only
  all_goals exact answer_keepsLink rfl

/-- What any owner leaves of the link (R151 step 5). -/
theorem carryOut_keepsLink (c : ReqCode) (args : List Byte) (s : State) :
    (carryOut c args s).keepsLink s := by
  cases c
  case hello =>
    simp only [carryOut, hello]
    split
    · exact ⟨true, s.link.restartPending, rfl⟩
    · exact answer_keepsLink rfl
  case restart =>
    simp only [carryOut, restart]
    split
    · exact ⟨s.link.greeted, true, rfl⟩
    · exact answer_keepsLink rfl
  case status => exact status_keepsLink args s
  case eventConfig => exact eventConfig_keepsLink args s
  case eventRead => exact eventRead_keepsLink args s
  case eventList => exact eventList_keepsLink args s
  case eventClear => exact eventClear_keepsLink args s
  case eventPost => exact eventPost_keepsLink args s
  case inputConfig => exact inputConfig_keepsLink args s
  case inputRead => exact inputRead_keepsLink args s
  case channelOpen => exact channelOpen_keepsLink args s
  case channelClose => exact channelClose_keepsLink args s
  case accept => exact acceptNotice_keepsLink args s
  case settle => exact settleRequest_keepsLink args s
  case slotConfig => exact slotConfig_keepsLink args s
  case slotRead => exact slotRead_keepsLink args s
  case slotOn => exact slotOn_keepsLink args s
  case slotStop => exact slotStop_keepsLink args s
  case slotCut => exact slotCut_keepsLink args s
  case slotSleep => exact slotSleep_keepsLink args s
  case slotWake => exact slotWake_keepsLink args s
  case slotReset => exact slotReset_keepsLink args s
  case slotVerdict => exact slotVerdict_keepsLink args s
  case slotHold => exact slotHold_keepsLink args s
  case slotUnhold => exact slotUnhold_keepsLink args s
  case slotKick => exact slotKick_keepsLink args s
  case slotFaultClear => exact slotFaultClear_keepsLink args s
  case slotRecoveryClear => exact slotRecoveryClear_keepsLink args s
  case stageConfig => exact stageConfig_keepsLink args s
  case stageRead => exact stageRead_keepsLink args s
  case shedConfig => exact shedConfig_keepsLink args s
  case timerStart => exact timerStart_keepsLink args s
  case timerStop => exact timerStop_keepsLink args s
  case timerRead => exact timerRead_keepsLink args s

/-- What the tests of dispatch leave of the link. -/
theorem perform_keepsLink (payload : List Byte) (s : State) : (perform payload s).keepsLink s := by
  unfold perform
  repeat' first | split | dsimp only
  all_goals first
    | exact answer_keepsLink rfl
    | exact carryOut_keepsLink _ _ _

/-! ### A request that is listened to is answered at once -/

/-- The execution of a request at a part whose link is free but for the request just taken (R150, R151,
R153): its own effect, what follows on it, and its reply, on an idle TXD or waiting for a busy one. -/
theorem pump_execute {r : Request} {s : State} (n : Nat) (h : s.linkFree) :
    pump n (execute r s) =
      (perform r.payload s).state.answered r.seq (perform r.payload s).reply := by
  obtain ⟨-, -, -, hq, hr, -, -⟩ := h
  obtain ⟨g, p, hk⟩ := perform_keepsLink r.payload s
  have hl : (finish (perform r.payload s).state).link =
      { s.link with greeted := g, restartPending := p } := by
    rw [link_of_outside (finish_outside _), hk]
  have ha : arbitrate (execute r s) =
      (perform r.payload s).state.answered r.seq (perform r.payload s).reply := by
    cases ht : s.link.tx <;>
      simp [execute, arbitrate, hl, ht, State.answered, State.replied, State.setLink, hr]
  have hn : (arbitrate (execute r s)).takeable = none := by
    rw [ha]
    cases ht : s.link.tx <;> simp [State.takeable, State.answered, State.replied, hl, hq, ht]
  cases n with
  | zero => exact ha
  | succ n =>
    unfold pump
    simp only [hn]
    exact ha

/-- A request to which the part listens is taken, executed and answered as it arrives (R148, R150,
R151). -/
theorem hostRequest_of_listening {seq : Byte} {payload : List Byte} {s : State}
    (h : s.listening seq) (hp : payload.length ≤ Config.maxPayload) :
    hostRequest seq payload s =
      .next ((perform payload s).state.answered seq (perform payload s).reply) := by
  obtain ⟨hrun, hcalm, hrest, hfresh⟩ := h
  have hrest' := hrest
  obtain ⟨h1, h2, h3, h4, h5, h6, h7⟩ := hrest'
  have hhunt : s.link.hunting = s.link := by
    simp only [Link.hunting]; rw [← h1, ← h2]
  have hf : frameArrives { seq := seq, kind := 0x01, payload := payload }
      (Frame.check { seq := seq, kind := 0x01, payload := payload }) s =
      s.setLink { s.link with queue := [{ seq := seq, payload := payload }] } := by
    simp [frameArrives, h3, Nat.not_lt.mpr hp, judge, queueRequest, h4, Config.requestQueueSize,
      hhunt]
  have hback : (s.setLink { s.link with queue := [{ seq := seq, payload := payload }] }).setLink
      { s.link with queue := [] } = s := by
    have : ({ s.link with queue := [] } : Link) = s.link := by rw [← h4]
    rw [this]; rfl
  have hfin : finish (s.setLink { s.link with queue := [{ seq := seq, payload := payload }] }) =
      s.setLink { s.link with queue := [{ seq := seq, payload := payload }] } :=
    finish_of_calm (calm_setLink _ hcalm)
  have harb : arbitrate (s.setLink { s.link with queue := [{ seq := seq, payload := payload }] }) =
      s.setLink { s.link with queue := [{ seq := seq, payload := payload }] } := by
    cases ht : s.link.tx <;> simp [arbitrate, ht, h5, h7]
  have hdis : dispatch { seq := seq, payload := payload } s =
      execute { seq := seq, payload := payload } s := by
    unfold dispatch
    split
    · rename_i c hc
      have : c.seq ≠ seq := by
        intro e; apply hfresh; simp [hc, e]
      simp [this]
    · rfl
  simp only [hostRequest, run, hrun, if_true, conclude, hf, hfin]
  rw [show Config.requestQueueSize = 3 + 1 from rfl]
  unfold pump
  simp only [harb]
  have htake : (s.setLink
      { s.link with queue := [{ seq := seq, payload := payload }] }).takeable =
      some { seq := seq, payload := payload } := by simp [State.takeable, h5, h6]
  simp only [htake, State.setLink_link, List.tail_cons]
  rw [hback, hdis, pump_execute 3 hrest]

/-- The tests of dispatch at a greeted part, for a payload of the right length (R151). -/
theorem perform_request {c : ReqCode} {args : List Byte} {s : State}
    (hl : args.length + 1 = c.length) (hg : s.link.greeted = true) :
    perform (requestPayload c args) s = carryOut c args s := by
  have hc : requestOf (c.byte :: args) = some c := by cases c <;> rfl
  simp [perform, hc, requestPayload, hl, hg]

/-- A request of the right length at a ready part reaches its owner, and is answered at once. -/
theorem request_of_ready {c : ReqCode} {seq : Byte} {args : List Byte} {s : State}
    (h : s.ready seq) (hl : args.length + 1 = c.length) :
    hostRequest seq (requestPayload c args) s =
      .next ((carryOut c args s).state.answered seq (carryOut c args s).reply) := by
  rw [hostRequest_of_listening h.1, perform_request hl h.2]
  have : c.length ≤ Config.maxPayload := by cases c <;> decide
  simpa [requestPayload, hl] using this

/-- The command of a request is its frame. -/
theorem exec_requestCommand (c : ReqCode) (seq : Byte) (args : List Byte) (s : State) :
    exec (requestCommand c seq args) s = hostRequest seq (requestPayload c args) s := by
  cases c <;> rfl

end Sys2Proof.Machine
end

