-- ==== Sys2Proof/Laws/Events.lean ====
section
/-! SUPPORT. What one occurrence does, everywhere (R9, R10, R11, R12): one lemma per part of State. -/

namespace Sys2Proof.Machine

/-! ### Channels touch neither entries, slots nor staging -/

@[simp] theorem compose_entries (c : ChannelId) (s : State) : (compose c s).entries = s.entries := by
  unfold compose; split <;> simp
@[simp] theorem compose_slots (c : ChannelId) (s : State) : (compose c s).slots = s.slots := by
  unfold compose; split <;> simp
@[simp] theorem compose_staging (c : ChannelId) (s : State) : (compose c s).staging = s.staging := by
  unfold compose; split <;> simp
@[simp] theorem compose_wakes (c : ChannelId) (s : State) : (compose c s).wakes = s.wakes := by
  unfold compose; split <;> simp

@[simp] theorem joinTail_entries (c : ChannelId) (e : EntryId) (s : State) :
    (joinTail c e s).entries = s.entries := by simp [joinTail]
@[simp] theorem joinTail_slots (c : ChannelId) (e : EntryId) (s : State) :
    (joinTail c e s).slots = s.slots := by simp [joinTail]
@[simp] theorem joinTail_staging (c : ChannelId) (e : EntryId) (s : State) :
    (joinTail c e s).staging = s.staging := by simp [joinTail]
@[simp] theorem joinTail_wakes (c : ChannelId) (e : EntryId) (s : State) :
    (joinTail c e s).wakes = s.wakes := by simp [joinTail]

@[simp] theorem joinIfUnplaced_entries (e : EntryId) (s : State) :
    (joinIfUnplaced e s).entries = s.entries := by
  unfold joinIfUnplaced; split
  · split <;> simp
  · rfl
@[simp] theorem joinIfUnplaced_slots (e : EntryId) (s : State) :
    (joinIfUnplaced e s).slots = s.slots := by
  unfold joinIfUnplaced; split
  · split <;> simp
  · rfl
@[simp] theorem joinIfUnplaced_staging (e : EntryId) (s : State) :
    (joinIfUnplaced e s).staging = s.staging := by
  unfold joinIfUnplaced; split
  · split <;> simp
  · rfl
@[simp] theorem joinIfUnplaced_wakes (e : EntryId) (s : State) :
    (joinIfUnplaced e s).wakes = s.wakes := by
  unfold joinIfUnplaced; split
  · split <;> simp
  · rfl

theorem endNotice_slots (c : ChannelId) (target : ChannelState) (s : State) :
    (endNotice c target s).slots = s.slots := by
  simp only [endNotice, State.setChannel_slots, returnEntries]
  rw [foldl_keeps State.slots _ (fun s e => joinTail_slots _ e s)]; simp
theorem endNotice_entries (c : ChannelId) (target : ChannelState) (s : State) :
    (endNotice c target s).entries = s.entries := by
  simp only [endNotice, State.setChannel_entries, returnEntries]
  rw [foldl_keeps State.entries _ (fun s e => joinTail_entries _ e s)]; simp
theorem endNotice_staging (c : ChannelId) (target : ChannelState) (s : State) :
    (endNotice c target s).staging = s.staging := by
  simp only [endNotice, State.setChannel_staging, returnEntries]
  rw [foldl_keeps State.staging _ (fun s e => joinTail_staging _ e s)]; simp

/-! ### Records by equal fields -/

theorem entry_of_entries {s t : State} (h : t.entries = s.entries) (e : EntryId) :
    t.entry e = s.entry e := by simp [State.entry, h]
theorem slot_of_slots {s t : State} (h : t.slots = s.slots) (i : SlotId) :
    t.slot i = s.slot i := by simp [State.slot, h]

/-! ### A change of an entry's record -/

/-- A slot after a change of an entry's record: its hold count follows (R12). -/
theorem replaceEntry_slot (e : EntryId) (x : Entry) (s : State) (i : SlotId) :
    (replaceEntry e x s).slot i = { s.slot i with
      holds := holdsAfter ((s.entry e).effectiveHold.getLsbD i.val) (x.effectiveHold.getLsbD i.val)
        (s.slot i).holds } := by
  simp [replaceEntry, adjustHolds]

@[simp] theorem replaceEntry_entry (e : EntryId) (x : Entry) (s : State) :
    (replaceEntry e x s).entry e = x := by simp [replaceEntry, adjustHolds]

theorem replaceEntry_entry_ne {e e' : EntryId} (x : Entry) (s : State) (h : e' ≠ e) :
    (replaceEntry e x s).entry e' = s.entry e' := by
  simp [replaceEntry, adjustHolds, State.entry_setEntry_ne, h]

@[simp] theorem replaceEntry_staging (e : EntryId) (x : Entry) (s : State) :
    (replaceEntry e x s).staging = s.staging := rfl
@[simp] theorem replaceEntry_wakes (e : EntryId) (x : Entry) (s : State) :
    (replaceEntry e x s).wakes = s.wakes := rfl
@[simp] theorem replaceEntry_priority (e : EntryId) (x : Entry) (s : State) :
    (replaceEntry e x s).priority = s.priority := rfl
@[simp] theorem replaceEntry_routine (e : EntryId) (x : Entry) (s : State) :
    (replaceEntry e x s).routine = s.routine := rfl
@[simp] theorem replaceEntry_channel (e : EntryId) (x : Entry) (s : State) (c : ChannelId) :
    (replaceEntry e x s).channel c = s.channel c := by cases c <;> rfl

/-! ### One occurrence -/

/-- The entry after an occurrence on it (R9, R10). -/
@[simp] theorem occur_entry (e : EntryId) (d : Option Half) (s : State) :
    (occur e d s).entry e = (s.entry e).record s.uptime d := by
  simp only [occur]; split
  · rw [entry_of_entries (s := replaceEntry e ((s.entry e).record s.uptime d) s)]
    · simp
    · simp [sendWakes]
  · simp

/-- Every other entry is as it was. -/
theorem occur_entry_ne {e e' : EntryId} (d : Option Half) (s : State) (h : e' ≠ e) :
    (occur e d s).entry e' = s.entry e' := by
  simp only [occur]; split
  · rw [entry_of_entries (s := replaceEntry e ((s.entry e).record s.uptime d) s)]
    · exact replaceEntry_entry_ne _ s h
    · simp [sendWakes]
  · exact replaceEntry_entry_ne _ s h

/-- Every slot is as it was, but for the hold that a first occurrence makes effective (R12). -/
theorem occur_slot (e : EntryId) (d : Option Half) (s : State) (i : SlotId) :
    (occur e d s).slot i = { s.slot i with
      holds := holdsAfter ((s.entry e).effectiveHold.getLsbD i.val)
        (((s.entry e).record s.uptime d).effectiveHold.getLsbD i.val) (s.slot i).holds } := by
  simp only [occur]; split
  · rw [slot_of_slots (s := replaceEntry e ((s.entry e).record s.uptime d) s)]
    · exact replaceEntry_slot _ _ _ _
    · simp [sendWakes]
  · exact replaceEntry_slot _ _ _ _

@[simp] theorem occur_staging (e : EntryId) (d : Option Half) (s : State) :
    (occur e d s).staging = s.staging := by
  simp only [occur]; split <;> simp [sendWakes]

@[simp] theorem occur_lifeOf (e : EntryId) (d : Option Half) (s : State) (i : SlotId) :
    (occur e d s).lifeOf i = s.lifeOf i := by simp [State.lifeOf, occur_slot]

@[simp] theorem occur_override (e : EntryId) (d : Option Half) (s : State) (i : SlotId) :
    ((occur e d s).slot i).override = (s.slot i).override := by simp [occur_slot]

/-- The wake requests of an occurrence: to each slot of the wake set, when the entry is enabled
(R11). -/
theorem occur_wakes (e : EntryId) (d : Option Half) (s : State) :
    (occur e d s).wakes = s.wakes ++
      (if (s.entry e).enabled then
        (slotsOf (s.entry e).wakeSet).map fun i => { slot := i, origin := WakeOrigin.wakeEvent }
      else []) := by
  simp only [occur]; split <;> simp [sendWakes]

/-- The record of an entry keeps its configuration. -/
theorem record_configuration (x : Entry) (now : Word) (d : Option Half) :
    (x.record now d).enabled = x.enabled ∧ (x.record now d).trigger = x.trigger ∧
      (x.record now d).route = x.route ∧ (x.record now d).wakeSet = x.wakeSet ∧
      (x.record now d).holdSet = x.holdSet := by
  unfold Entry.record; split <;> simp

/-- An entry that has taken an occurrence is latched. -/
theorem record_latched (x : Entry) (now : Word) (d : Option Half) :
    (x.record now d).latched = true := by
  unfold Entry.record Entry.latched; split <;> simp

/-! ### A transition -/

theorem transition_slot (i : SlotId) (target : LifeState) (cause : Cause)
    (step : Option StepTimer) (s : State) (j : SlotId) :
    ∃ n, (enter i target cause step s).slot j =
      { (if j = i then (s.slot i).moved target cause s.uptime step else s.slot j) with
        holds := n } := by
  have base : ∀ u : Staging,
      ((s.setSlot i ((s.slot i).moved target cause s.uptime step)).setStaging u).slot j =
        if j = i then (s.slot i).moved target cause s.uptime step else s.slot j := by
    intro u
    by_cases h : j = i
    · subst h; simp
    · simp [h, State.slot_setSlot_ne]
  simp only [enter]
  split
  · rw [occur_slot, base]; exact ⟨_, rfl⟩
  · rw [base]; exact ⟨_, rfl⟩

/-- The state a slot is in after its own transition. -/
@[simp] theorem enter_lifeOf (i : SlotId) (target : LifeState) (cause : Cause)
    (step : Option StepTimer) (s : State) :
    (enter i target cause step s).lifeOf i = target := by
  obtain ⟨n, h⟩ := transition_slot i target cause step s i
  simp [State.lifeOf, h, Slot.moved]

/-- No other slot changes state. -/
theorem enter_lifeOf_ne {i j : SlotId} (target : LifeState) (cause : Cause)
    (step : Option StepTimer) (s : State) (hj : j ≠ i) :
    (enter i target cause step s).lifeOf j = s.lifeOf j := by
  obtain ⟨n, h⟩ := transition_slot i target cause step s j
  simp [State.lifeOf, h, hj]

/-- No transition touches an override flag. -/
@[simp] theorem enter_override (i : SlotId) (target : LifeState) (cause : Cause)
    (step : Option StepTimer) (s : State) (j : SlotId) :
    ((enter i target cause step s).slot j).override = (s.slot j).override := by
  obtain ⟨n, h⟩ := transition_slot i target cause step s j
  by_cases hj : j = i
  · subst hj; simp [h, Slot.moved]
  · simp [h, hj]

/-- What the Staging Unit holds after a transition. -/
@[simp] theorem enter_staging (i : SlotId) (target : LifeState) (cause : Cause)
    (step : Option StepTimer) (s : State) :
    (enter i target cause step s).staging = s.staging.told i (s.lifeOf i) target cause := by
  simp only [enter]; split <;> simp

/-- A slot that is unlisted leaves the start queue as it is. -/
@[simp] theorem unlisted_startQueue (u : Staging) (i : SlotId) :
    (u.unlisted i).startQueue = u.startQueue := by
  unfold Staging.unlisted
  split
  · dsimp only; split <;> rfl
  · rfl

/-- The start queue after a transition: the slot has left it if it was QUEUED (R114). -/
theorem told_startQueue (u : Staging) (i : SlotId) (before target : LifeState) (cause : Cause) :
    (u.told i before target cause).startQueue =
      if before = .queued then u.startQueue.filter fun p => p.slot ≠ i else u.startQueue := by
  have h1 : ∀ v : Staging, (v.leftPowerUp before target).startQueue = v.startQueue := by
    intro v; unfold Staging.leftPowerUp; split <;> rfl
  have h2 : ∀ v : Staging, (v.leftShedList i target cause).startQueue = v.startQueue := by
    intro v; unfold Staging.leftShedList; split <;> simp
  have h3 : ∀ v : Staging, (v.restoreSettled i target).startQueue = v.startQueue := by
    intro v; unfold Staging.restoreSettled; split <;> rfl
  simp only [Staging.told, h3, h2, h1, Staging.leftQueue]
  split <;> rfl

/-- Unlisting touches no slot. -/
@[simp] theorem unlist_slot (i j : SlotId) (s : State) : (unlist i s).slot j = s.slot j := rfl
@[simp] theorem unlist_lifeOf (i j : SlotId) (s : State) : (unlist i s).lifeOf j = s.lifeOf j := rfl
@[simp] theorem unlist_entries (i : SlotId) (s : State) : (unlist i s).entries = s.entries := rfl
@[simp] theorem unlist_startQueue (i : SlotId) (s : State) :
    (unlist i s).staging.startQueue = s.staging.startQueue := by simp [unlist]

end Sys2Proof.Machine
end

