-- ==== Sys2Proof/Laws/Staging.lean ====
section
/-! SUPPORT. What a transition and an unlisting make of the Staging Unit, field by field, and that an
unlisting and a transition of one slot come to the same in either order. -/

namespace Sys2Proof.Machine

/-! ### The shed list -/

/-- The in-shed-list mark says that the slot has a place in the shed list. -/
theorem listed_iff (s : State) (i : SlotId) :
    s.listed i = true ↔ i ∈ s.staging.shedList.map ShedPlace.slot := by
  simp [State.listed, List.mem_map]

/-- The mark follows the list. -/
theorem listed_of_shedList {s t : State} (h : t.staging.shedList = s.staging.shedList) (i : SlotId) :
    t.listed i = s.listed i := by simp [State.listed, h]

/-- The shed list without a slot; those behind it close up (R124). -/
theorem unlisted_shedList (u : Staging) (i : SlotId) :
    (u.unlisted i).shedList = u.shedList.filter fun p => p.slot ≠ i := by
  unfold Staging.unlisted
  split
  · dsimp only; split <;> rfl
  · rename_i h
    simp only [Bool.not_eq_true, List.any_eq_false, beq_iff_eq] at h
    exact (List.filter_eq_self.mpr (by simpa using h)).symm

@[simp] theorem unlisted_rail (u : Staging) (i : SlotId) : (u.unlisted i).rail = u.rail := by
  unfold Staging.unlisted
  split
  · dsimp only; split <;> rfl
  · rfl

@[simp] theorem unlisted_settleTimer (u : Staging) (i : SlotId) :
    (u.unlisted i).settleTimer = u.settleTimer := by
  unfold Staging.unlisted
  split
  · dsimp only; split <;> rfl
  · rfl

/-- An unlisted slot is listed no more, and no other slot comes in. -/
theorem unlist_listed (i j : SlotId) (s : State) :
    (unlist i s).listed j = (s.listed j && decide (j ≠ i)) := by
  simp only [State.listed, unlist, State.setStaging_staging, unlisted_shedList, List.any_filter]
  rw [Bool.eq_iff_iff]
  simp only [List.any_eq_true, Bool.and_eq_true, decide_eq_true_eq, beq_iff_eq]
  constructor
  · rintro ⟨p, hp, h1, rfl⟩; exact ⟨⟨p, hp, rfl⟩, h1⟩
  · rintro ⟨⟨p, hp, rfl⟩, h1⟩; exact ⟨p, hp, h1, rfl⟩

@[simp] theorem unlist_listed_self (i : SlotId) (s : State) : (unlist i s).listed i = false := by
  simp [unlist_listed]

@[simp] theorem unlist_railGood (i : SlotId) (s : State) : (unlist i s).railGood = s.railGood := by
  simp [State.railGood, unlist]

/-! ### What the Staging Unit is told of a transition -/

/-- The shed list after a transition (R124). -/
theorem told_shedList (u : Staging) (i : SlotId) (before target : LifeState) (cause : Cause) :
    (u.told i before target cause).shedList =
      if leavesShedList target cause then u.shedList.filter fun p => p.slot ≠ i
      else u.shedList := by
  have h1 : (u.leftQueue i before).shedList = u.shedList := by
    unfold Staging.leftQueue; split <;> rfl
  have h2 : ∀ v : Staging, (v.leftPowerUp before target).shedList = v.shedList := by
    intro v; unfold Staging.leftPowerUp; split <;> rfl
  have h3 : ∀ v : Staging, (v.restoreSettled i target).shedList = v.shedList := by
    intro v; unfold Staging.restoreSettled; split <;> rfl
  simp only [Staging.told, h3, Staging.leftShedList]
  split <;> simp [unlisted_shedList, h1, h2]

@[simp] theorem told_rail (u : Staging) (i : SlotId) (before target : LifeState) (cause : Cause) :
    (u.told i before target cause).rail = u.rail := by
  have h1 : (u.leftQueue i before).rail = u.rail := by unfold Staging.leftQueue; split <;> rfl
  have h2 : ∀ v : Staging, (v.leftPowerUp before target).rail = v.rail := by
    intro v; unfold Staging.leftPowerUp; split <;> rfl
  have h3 : ∀ v : Staging, (v.restoreSettled i target).rail = v.rail := by
    intro v; unfold Staging.restoreSettled; split <;> rfl
  simp only [Staging.told, h3, Staging.leftShedList]
  split <;> simp [h1, h2]

@[simp] theorem told_settleTimer (u : Staging) (i : SlotId) (before target : LifeState)
    (cause : Cause) : (u.told i before target cause).settleTimer = u.settleTimer := by
  have h1 : (u.leftQueue i before).settleTimer = u.settleTimer := by
    unfold Staging.leftQueue; split <;> rfl
  have h2 : ∀ v : Staging, (v.leftPowerUp before target).settleTimer = v.settleTimer := by
    intro v; unfold Staging.leftPowerUp; split <;> rfl
  have h3 : ∀ v : Staging, (v.restoreSettled i target).settleTimer = v.settleTimer := by
    intro v; unfold Staging.restoreSettled; split <;> rfl
  simp only [Staging.told, h3, Staging.leftShedList]
  split <;> simp [h1, h2]

/-- A transition brings no slot into the shed list. -/
theorem enter_listed_of_false {i j : SlotId} {target : LifeState} {cause : Cause}
    {step : Option StepTimer} {s : State} (h : s.listed j = false) :
    (enter i target cause step s).listed j = false := by
  simp only [State.listed, List.any_eq_false] at h ⊢
  rw [enter_staging, told_shedList]
  split
  · exact fun p hp => h p (List.mem_of_mem_filter hp)
  · exact h

/-- The deferred wake of a slot is gone after its own transition. -/
@[simp] theorem enter_deferredWake (i : SlotId) (target : LifeState) (cause : Cause)
    (step : Option StepTimer) (s : State) :
    ((enter i target cause step s).slot i).deferredWake = none := by
  obtain ⟨n, h⟩ := transition_slot i target cause step s i
  simp [h, Slot.moved]

/-- No other slot's deferred wake changes. -/
theorem enter_deferredWake_ne {i j : SlotId} (target : LifeState) (cause : Cause)
    (step : Option StepTimer) (s : State) (hj : j ≠ i) :
    ((enter i target cause step s).slot j).deferredWake = (s.slot j).deferredWake := by
  obtain ⟨n, h⟩ := transition_slot i target cause step s j
  simp [h, hj]

/-! ### An unlisting and a transition in either order -/

/-- An occurrence neither reads nor writes the Staging Unit. -/
theorem occur_setStaging (e : EntryId) (d : Option Half) (u : Staging) (s : State) :
    occur e d (s.setStaging u) = (occur e d s).setStaging u := by
  have hc : ∀ (c : ChannelId) (t : State), compose c (t.setStaging u) = (compose c t).setStaging u := by
    intro c t
    have he : (t.setStaging u).channel c = t.channel c := State.channel_setStaging _ _ _
    by_cases hi : (t.channel c).state = .idle ∧ (t.channel c).pending ≠ []
    · unfold compose
      rw [if_pos (by rw [he]; exact hi), if_pos hi]
      cases c <;> rfl
    · unfold compose
      rw [if_neg (by rw [he]; exact hi), if_neg hi]
  have hj : ∀ (c : ChannelId) (t : State),
      joinTail c e (t.setStaging u) = (joinTail c e t).setStaging u := by
    intro c t
    unfold joinTail
    rw [← hc]
    cases c <;> rfl
  have hu : ∀ t : State, joinIfUnplaced e (t.setStaging u) = (joinIfUnplaced e t).setStaging u := by
    intro t
    unfold joinIfUnplaced
    simp only [State.entry_setStaging]
    split
    · rename_i c _
      have h1 : (t.setStaging u).inFlight e = t.inFlight e := rfl
      have h2 : (t.setStaging u).pendingIn c e = t.pendingIn c e := by cases c <;> rfl
      rw [h1, h2]
      split
      · rfl
      · exact hj _ _
    · rfl
  have hr : ∀ x : Entry, replaceEntry e x (s.setStaging u) = (replaceEntry e x s).setStaging u :=
    fun _ => rfl
  have hup : (s.setStaging u).uptime = s.uptime := rfl
  unfold occur
  simp only [State.entry_setStaging, hup, hr, hu]
  split <;> rfl

/-- An unlisting, all at once (R124). -/
theorem unlisted_eq (u : Staging) (i : SlotId) :
    u.unlisted i =
      let rest := u.shedList.filter fun p => p.slot ≠ i
      let ends := i ∈ u.shedList.map ShedPlace.slot ∧ rest = []
      { u with
        shedList := rest
        shedLevel := if ends then 0 else u.shedLevel
        restore := if ends then .clear else u.restore } := by
  have hm : (u.shedList.any fun p => p.slot == i) = true ↔ i ∈ u.shedList.map ShedPlace.slot := by
    simp [List.mem_map]
  by_cases hl : i ∈ u.shedList.map ShedPlace.slot
  · unfold Staging.unlisted
    rw [if_pos (hm.mpr hl)]
    dsimp only
    by_cases hr : (u.shedList.filter fun p => decide (p.slot ≠ i)) = []
    · rw [if_pos hr, if_pos ⟨hl, hr⟩, if_pos ⟨hl, hr⟩]
    · rw [if_neg hr, if_neg fun h => hr h.2, if_neg fun h => hr h.2]
  · have hf : (u.shedList.filter fun p => decide (p.slot ≠ i)) = u.shedList := by
      rw [List.filter_eq_self]
      intro p hp
      simp only [decide_eq_true_eq]
      rintro rfl
      exact hl (List.mem_map_of_mem hp)
    unfold Staging.unlisted
    rw [if_neg fun h => hl (hm.mp h)]
    dsimp only
    rw [if_neg fun h => hl h.1, if_neg fun h => hl h.1, hf]

/-- What the Staging Unit holds after a transition, all at once (R114, R116, R124, R129). -/
theorem told_eq (u : Staging) (i : SlotId) (before target : LifeState) (cause : Cause) :
    u.told i before target cause =
      let rest := u.shedList.filter fun p => p.slot ≠ i
      let ends := leavesShedList target cause = true ∧ i ∈ u.shedList.map ShedPlace.slot ∧ rest = []
      { u with
        startQueue := if before = .queued then u.startQueue.filter fun p => p.slot ≠ i
          else u.startQueue
        staggerTimer := if before.inPowerUp = true ∧ target.inPowerUp = false
          then (if u.staggerGap = 0 then none else some (u.staggerGap * 10)) else u.staggerTimer
        shedList := if leavesShedList target cause then rest else u.shedList
        shedLevel := if ends then 0 else u.shedLevel
        restore := if ends then .clear
          else if settlesRestore target = true ∧ u.restore = .watching i then .between
          else u.restore } := by
  have hq : u.leftQueue i before = { u with
      startQueue := if before = .queued then u.startQueue.filter fun p => p.slot ≠ i
        else u.startQueue } := by
    unfold Staging.leftQueue Staging.withoutQueued; split <;> rfl
  have hp : ∀ v : Staging, v.leftPowerUp before target = { v with
      staggerTimer := if before.inPowerUp = true ∧ target.inPowerUp = false
        then (if v.staggerGap = 0 then none else some (v.staggerGap * 10)) else v.staggerTimer } := by
    intro v
    unfold Staging.leftPowerUp Staging.staggered
    cases before.inPowerUp <;> cases target.inPowerUp <;> simp
  have hr : ∀ v : Staging, v.restoreSettled i target = { v with
      restore := if settlesRestore target = true ∧ v.restore = .watching i then .between
        else v.restore } := by
    intro v
    unfold Staging.restoreSettled
    cases settlesRestore target
    · simp
    · by_cases h : v.restore = .watching i
      · simp [h]
      · simp only [Bool.true_and, beq_iff_eq, true_and, if_neg h]
  unfold Staging.told Staging.leftShedList
  rw [hr, hp, hq]
  cases leavesShedList target cause
  · simp
  · rw [if_pos rfl, unlisted_eq]
    by_cases he : i ∈ u.shedList.map ShedPlace.slot ∧
        (u.shedList.filter fun p => decide (p.slot ≠ i)) = [] <;>
      simp only [he, if_true, if_false, and_true, and_false, reduceCtorEq]

/-- To be told of a slot's transition and then to unlist it is the same in either order. -/
theorem told_unlisted (u : Staging) (i : SlotId) (before target : LifeState) (cause : Cause) :
    (u.unlisted i).told i before target cause = (u.told i before target cause).unlisted i := by
  have hn : i ∉ (u.shedList.filter fun p => decide (p.slot ≠ i)).map ShedPlace.slot := by
    simp [List.mem_map]
  have hf : ((u.shedList.filter fun p => decide (p.slot ≠ i)).filter
      fun p => decide (p.slot ≠ i)) = u.shedList.filter fun p => decide (p.slot ≠ i) := by
    rw [List.filter_filter]; congr 1; simp
  rw [told_eq, told_eq, unlisted_eq, unlisted_eq]
  dsimp only
  rw [hf]
  by_cases he : i ∈ u.shedList.map ShedPlace.slot ∧
      (u.shedList.filter fun p => decide (p.slot ≠ i)) = []
  · cases leavesShedList target cause <;>
      simp only [he, if_true, if_false, true_and, false_and, and_false, and_true, reduceCtorEq,
        Bool.false_eq_true, and_self, ite_self, List.filter_nil]
  · cases leavesShedList target cause <;> simp only [he, hn, if_false, if_true, false_and, and_false,
      Bool.false_eq_true, hf]

/-- A transition and an unlisting of one slot come to the same in either order. -/
theorem enter_unlist (i : SlotId) (target : LifeState) (cause : Cause) (step : Option StepTimer)
    (s : State) : enter i target cause step (unlist i s) = unlist i (enter i target cause step s) := by
  have h : ((unlist i s).setSlot i ((s.slot i).moved target cause s.uptime step)).setStaging
      ((s.staging.unlisted i).told i (s.lifeOf i) target cause) =
      unlist i ((s.setSlot i ((s.slot i).moved target cause s.uptime step)).setStaging
        (s.staging.told i (s.lifeOf i) target cause)) := by
    rw [told_unlisted]; rfl
  unfold enter
  cases hr : target.reported
  · exact h
  · simp only [if_true]
    refine (congrArg (occur (transitionEntry i) (some (transitionDetail target cause))) h).trans ?_
    unfold unlist
    rw [occur_setStaging]
    simp

/-- A waking and an unlisting of one slot come to the same in either order. -/
theorem beginWaking_unlist (i : SlotId) (cause : Cause) (s : State) :
    beginWaking i cause (unlist i s) = unlist i (beginWaking i cause s) := by
  have he : ∀ (target : LifeState) (c : Cause) (step : Option StepTimer) (t : State),
      enter i target c step (unlist i t) = unlist i (enter i target c step t) :=
    fun target c step t => enter_unlist i target c step t
  have hs : ∀ (x : Slot) (t : State), (unlist i t).setSlot i x = unlist i (t.setSlot i x) :=
    fun _ _ => rfl
  have hl : ∀ t : State, (unlist i t).lineSet i = t.lineSet i := fun _ => rfl
  have hx : ∀ t : State, (unlist i t).slot i = t.slot i := fun _ => rfl
  unfold beginWaking secondStepOfWaking endWaking
  simp only [hx, hl, he, hs]
  repeat' split
  all_goals rfl

/-- A wake that the shed list does not hold back and an unlisting come to the same in either order; in
OFF such a wake does nothing. -/
theorem wake_unlist (i : SlotId) (origin : WakeOrigin) (s : State)
    (ho : origin.ignoredWhenListed = false) :
    wake i origin (unlist i s) = unlist i (wake i origin s) := by
  unfold wake
  simp only [ho, Bool.and_false, Bool.false_eq_true, if_false, unlist_lifeOf]
  split
  · simp [wakeFromOff, ho]
  · exact enter_unlist i _ _ _ s
  · rfl
  · exact beginWaking_unlist i _ s
  all_goals rfl

end Sys2Proof.Machine
end

