-- ==== Sys2Proof/Laws/Closure.lean ====
section
/-! SUPPORT. Everything a step can do, said once: `Closed P` lists the primitive changes of State of which
every meaning is made, each with what holds where it is made; a property that they keep is kept by every
command and by every step (`Closed.exec`, `Closed.step`). -/

namespace Sys2Proof.Machine

/-- A channel with a notice outstanding (R29). -/
def ChannelState.outstanding : ChannelState → Bool
  | .offered | .servicing => true
  | .closed | .idle | .stalled => false

/-- The states in which a listed slot is found (R123). -/
def LifeState.mayBeListed : LifeState → Bool
  | .entering | .asleep | .stopping | .off => true
  | .queued | .powering | .releasing | .running | .resetting | .sleepWait | .waking | .faulted => false

/-- A transition that agrees with the shed list: the slot is not listed, or is in a state in which no listed
slot is found, or leaves the list, or goes on where its shedding has brought it (R123, R124). -/
def State.mayEnter (s : State) (i : SlotId) (target : LifeState) (cause : Cause) : Prop :=
  s.listed i = false ∨ (s.lifeOf i).mayBeListed = false ∨ leavesShedList target cause = true ∨
    (s.lifeOf i = .entering ∧ (target = .asleep ∨ (s.slot i).deferredWake ≠ none)) ∨
    (s.lifeOf i = .stopping ∧ target = .off)

/-- Some state with the property has a wake request waiting that no occurrence sends: one that a listed slot
would take. -/
def strayWake (P : State → Prop) : Prop :=
  ∃ s : State, P s ∧ ∃ w ∈ s.wakes, w.origin.ignoredWhenListed = false

/-- A property that the primitive changes of State keep. -/
structure Closed (P : State → Prop) : Prop where
  /-- Anything but the table, the channels, the slots, the Staging Unit, the waiting commands, further wake
  requests and a longer request queue. -/
  inside : ∀ {s t : State}, P s → t.entries = s.entries → t.priority = s.priority →
    t.routine = s.routine → t.slots = s.slots → t.staging = s.staging → t.pending = s.pending →
    t.wakes ⊆ s.wakes → (t.link.queue.length ≤ s.link.queue.length ∨ t.link.queue.length ≤ Config.requestQueueSize) → P t
  staging : ∀ {s : State} {u : Staging}, P s → u.startQueue = s.staging.startQueue →
    u.shedList = s.staging.shedList → u.rail = s.staging.rail →
    (u.settleTimer = s.staging.settleTimer ∨ u.settleTimer = none ∨ s.staging.rail = .lost) →
    P (s.setStaging u)
  unlist : ∀ {s : State} {i : SlotId}, P s → P (unlist i s)
  emptied : ∀ {s : State} {u : Staging}, P s → (∀ i, s.lifeOf i = .off ∨ s.lifeOf i = .faulted) →
    u.startQueue = [] → u.shedList = [] → u.rail = .lost → P (s.setStaging u)
  returned : ∀ {s : State}, P s → (s.staging.settleTimer.isSome = true ∨ s.staging.rail = .lost) →
    P (s.setStaging { s.staging with rail := .good, settleTimer := none })
  slot : ∀ {s : State} {i : SlotId} {x : Slot}, P s → x.state = (s.slot i).state →
    x.holds = (s.slot i).holds → x.hostHolds = (s.slot i).hostHolds →
    (x.override = (s.slot i).override ∨ x.override = false) →
    (x.deferredWake = (s.slot i).deferredWake ∨ s.listed i = false ∨ strayWake P) →
    P (s.setSlot i x)
  slots : ∀ {s : State} {f : SlotId → Slot → Slot}, P s →
    (∀ i x, (f i x).state = x.state ∧ (f i x).holds = x.holds ∧ (f i x).hostHolds = x.hostHolds ∧
      (f i x).override = x.override ∧ (f i x).deferredWake = x.deferredWake) → P (s.mapSlots f)
  hold : ∀ {s : State} {i : SlotId}, P s → P (s.setSlot i { s.slot i with
    hostHolds := (s.slot i).hostHolds + 1, holds := (s.slot i).holds + 1 })
  unhold : ∀ {s : State} {i : SlotId}, P s → 0 < (s.slot i).hostHolds → P (s.setSlot i { s.slot i with
    hostHolds := (s.slot i).hostHolds - 1, holds := (s.slot i).holds - 1 })
  discard : ∀ {s : State}, P s → P (discardHostHolds s)
  counted : ∀ {s : State}, P s → P s.counted
  cold : ∀ {s : State} {reason : RestartReason}, P s → P (coldStart reason s)
  enter : ∀ {s : State} {i : SlotId} {target : LifeState} {cause : Cause} {step : Option StepTimer},
    P s → target ≠ .queued → target ≠ .powering → (target = .releasing → s.lifeOf i = .powering) →
    (target = .off ∨ (s.lifeOf i).railOn = true) → (s.mayEnter i target cause ∨ strayWake P) →
    P (enter i target cause step s)
  release : ∀ {s : State} {p : QueuePlace} {rest : List QueuePlace} {step : Option StepTimer},
    P s → s.staging.startQueue = p :: rest → s.powerUpBusy = false → s.staging.rail = .good →
    P (Machine.enter p.slot .powering p.origin.cause step s)
  /-- A claim at a GOOD rail of a slot that is not listed, as no slot is when the rail has just returned. -/
  enqueue : ∀ {s : State} {i : SlotId} {o : QueueOrigin}, P s → s.lifeOf i ≠ .queued →
    (s.lifeOf i = .off → (s.slot i).override = false) →
    (s.staging.rail = .good ∨ s.lifeOf i = .running) →
    (s.listed i = false ∨ s.lifeOf i = .running ∨ ∃ s₀ : State, P s₀ ∧
      (s₀.staging.settleTimer.isSome = true ∨ s₀.staging.rail = .lost) ∧
      s.staging.shedList = s₀.staging.shedList) → P (enqueue i o s)
  shed : ∀ {s : State} {i : SlotId} {action : ShedAction} {target : LifeState} {cause : Cause}
    {step : Option StepTimer}, P s → (s.lifeOf i = .running ∨ s.lifeOf i = .sleepWait) →
    s.listed i = false →
    (action = .sleep ∧ target = .entering ∨ action = .stop ∧ target = .stopping) →
    P (Machine.enter i target cause step (s.setStaging { s.staging with
      shedList := s.staging.shedList ++ [{ slot := i, action := action }] }))
  override : ∀ {s : State} {i : SlotId}, P s → P (overrideSlot i s)
  occur : ∀ {s : State} {e : EntryId} {d : Option Half}, P s → P (occur e d s)
  clearEntry : ∀ {s : State} {e : EntryId}, P s → P (clearEntry e s)
  reconfigure : ∀ {s : State} {e : EntryId} {x : Entry}, P s → P (reconfigure e x s)
  channel : ∀ {s : State} {c : ChannelId} {x : Channel}, P s → x.pending = (s.channel c).pending →
    x.inFlight = (s.channel c).inFlight →
    x.state.outstanding = (s.channel c).state.outstanding →
    (x.itemLimit = (s.channel c).itemLimit ∨
      (x.state.outstanding = false ∧ 1 ≤ x.itemLimit ∧ x.itemLimit ≤ 12)) → P (s.setChannel c x)
  compose : ∀ {s : State} {c : ChannelId}, P s → P (compose c s)
  endNotice : ∀ {s : State} {c : ChannelId} {target : ChannelState}, P s →
    target.outstanding = false → P (endNotice c target s)
  restart : ∀ {s : State}, P s → P (restartChannels s)

namespace Closed

variable {P : State → Prop} (h : Closed P)

include h

/-! ### Outside, link and lists -/

theorem outside {s t : State} (hs : P s) (h1 : t.entries = s.entries) (h2 : t.priority = s.priority)
    (h3 : t.routine = s.routine) (h4 : t.slots = s.slots) (h5 : t.staging = s.staging)
    (h6 : t.pending = s.pending) (h7 : t.link.queue = s.link.queue)
    (h8 : t.wakes = s.wakes := by rfl) : P t :=
  h.inside hs h1 h2 h3 h4 h5 h6 (by rw [h8]; exact List.Subset.refl _) (.inl (by rw [h7]))

theorem setLink {s : State} {x : Link} (hs : P s)
    (hq : x.queue.length ≤ s.link.queue.length ∨ x.queue.length ≤ Config.requestQueueSize) :
    P (s.setLink x) :=
  h.inside hs rfl rfl rfl rfl rfl rfl (List.Subset.refl _) hq

theorem setWakes {s : State} {x : List WakeRequest} (hs : P s) (hx : x ⊆ s.wakes) :
    P (s.setWakes x) := h.inside hs rfl rfl rfl rfl rfl rfl hx (.inl (Nat.le_refl _))

theorem setTimer {s : State} {t : TimerId} {x : GeneralTimer} (hs : P s) : P (s.setTimer t x) :=
  h.outside hs rfl rfl rfl rfl rfl rfl rfl

theorem setBoard {s : State} {x : BoardLines} (hs : P s) : P (s.setBoard x) :=
  h.outside hs rfl rfl rfl rfl rfl rfl rfl

theorem setPinLine {s : State} {p : Pin} {x : Line} (hs : P s) : P (s.setPinLine p x) := by
  cases p <;> first | exact hs | exact h.outside hs rfl rfl rfl rfl rfl rfl rfl

omit h in
theorem foldl {α : Type} {f : State → α → State} (hf : ∀ {s a}, P s → P (f s a)) {l : List α}
    {s : State} (hs : P s) : P (l.foldl f s) := by
  induction l generalizing s with
  | nil => exact hs
  | cons a l ih => exact ih (hf hs)

/-! ### Slots: transitions -/

omit h in
/-- A transition that takes the slot out of the shed list. -/
theorem may_leave {s : State} {i : SlotId} {target : LifeState} {cause : Cause}
    (hl : leavesShedList target cause = true) : s.mayEnter i target cause := .inr (.inr (.inl hl))

omit h in
/-- A transition from a state in which no listed slot is found. -/
theorem may_move {s : State} {i : SlotId} {target : LifeState} {cause : Cause}
    (hl : (s.lifeOf i).mayBeListed = false) : s.mayEnter i target cause := .inr (.inl hl)

theorem enterOff {s : State} {i : SlotId} {cause : Cause} (hs : P s) (hc : cause ≠ .shed) :
    P (Machine.enter i .off cause none s) :=
  h.enter hs (by simp) (by simp) (by simp) (.inl rfl)
    (.inl (may_leave (by simp [leavesShedList, hc])))

theorem enterOn {s : State} {i : SlotId} {target : LifeState} {cause : Cause}
    {step : Option StepTimer} (hs : P s) (h1 : target ≠ .queued) (h2 : target ≠ .powering)
    (h3 : target ≠ .releasing) (h4 : (s.lifeOf i).railOn = true) (h5 : s.mayEnter i target cause ∨ strayWake P) :
    P (Machine.enter i target cause step s) :=
  h.enter hs h1 h2 (fun e => absurd e h3) (.inr h4) h5

theorem enterRunning {s : State} {i : SlotId} {cause : Cause} (hs : P s)
    (hl : (s.lifeOf i).railOn = true) : P (Machine.enter i .running cause none s) :=
  h.enterOn hs (by simp) (by simp) (by simp) hl (.inl (may_leave rfl))

theorem enterFaulted {s : State} {i : SlotId} {cause : Cause} (hs : P s)
    (hl : (s.lifeOf i).railOn = true) : P (Machine.enter i .faulted cause none s) :=
  h.enterOn hs (by simp) (by simp) (by simp) hl (.inl (may_leave rfl))

theorem beginReleasing {s : State} {i : SlotId} (hs : P s) (hp : s.lifeOf i = .powering) :
    P (beginReleasing i s) := by
  unfold Machine.beginReleasing
  exact h.enter hs (by simp) (by simp) (fun _ => hp) (.inr (by simp [hp, LifeState.railOn]))
    (.inl (may_move (by simp [hp, LifeState.mayBeListed])))

theorem releaseHead {s : State} (hs : P s) : P (releaseHead s) := by
  unfold Machine.releaseHead
  split
  · rename_i p hp
    unfold State.releasable at hp
    split at hp
    · cases hp
    · rename_i q rest hq
      split at hp
      · rename_i hc
        cases hp
        simp only [beginPowering]
        split
        · exact h.beginReleasing (h.release hs hq hc.1 (by simpa [State.railGood] using hc.2.2.2))
            (by simp)
        · exact h.release hs hq hc.1 (by simpa [State.railGood] using hc.2.2.2)
      · cases hp
  · exact hs

theorem endWaking {s : State} {i : SlotId} (hs : P s) (hl : (s.lifeOf i).railOn = true) :
    P (endWaking i s) := h.enterRunning hs hl

theorem secondStepOfWaking {s : State} {i : SlotId} (hs : P s) (hl : (s.lifeOf i).railOn = true) :
    P (secondStepOfWaking i s) := by
  have h2 := h.slot (i := i) (x := { s.slot i with
    step := some { kind := .wake, left := (s.slot i).config.wakeLimit * 100 } }) hs rfl rfl rfl
    (.inl rfl) (.inl rfl)
  simp only [Machine.secondStepOfWaking]
  split
  · exact h2
  · exact h.endWaking h2 (by simpa [State.lifeOf] using hl)

theorem beginWaking {s : State} {i : SlotId} {cause : Cause} (hs : P s)
    (hl : (s.lifeOf i).railOn = true) (hm : s.mayEnter i .waking cause ∨ strayWake P) :
    P (beginWaking i cause s) := by
  have hw := fun step => h.enterOn (step := step) hs (by simp) (by simp) (by simp) hl hm
  simp only [Machine.beginWaking]
  split
  · exact h.secondStepOfWaking (hw _) (by simp [LifeState.railOn])
  · exact hw _

theorem readyInEntering {s : State} {i : SlotId} (hs : P s) (hl : s.lifeOf i = .entering) :
    P (readyInEntering i s) := by
  have hr : (s.lifeOf i).railOn = true := by rw [hl]; rfl
  unfold Machine.readyInEntering
  split
  · exact h.enterOn hs (by simp) (by simp) (by simp) hr
      (.inl (.inr (.inr (.inr (.inl ⟨hl, .inl rfl⟩)))))
  · rename_i hd
    exact h.beginWaking hs hr (.inl (.inr (.inr (.inr (.inl ⟨hl, .inr (by simp [hd])⟩)))))

theorem beginEntering {s : State} {i : SlotId} {cause : Cause} (hs : P s)
    (hl : s.lifeOf i = .running ∨ s.lifeOf i = .sleepWait) : P (beginEntering i cause s) := by
  have he := fun step => h.enterOn (i := i) (target := .entering) (cause := cause) (step := step) hs
    (by simp) (by simp) (by simp) (by rcases hl with hl | hl <;> rw [hl] <;> rfl)
    (.inl (may_move (by rcases hl with hl | hl <;> rw [hl] <;> rfl)))
  simp only [Machine.beginEntering]
  split
  · exact h.readyInEntering (he _) (by simp)
  · exact he _

theorem endStopping {s : State} {i : SlotId} (hs : P s) (hl : s.lifeOf i = .stopping) :
    P (endStopping i s) :=
  h.enter hs (by simp) (by simp) (by simp) (.inl rfl)
    (.inl (.inr (.inr (.inr (.inr ⟨hl, rfl⟩)))))

theorem beginStopping {s : State} {i : SlotId} {cause : Cause} (hs : P s)
    (hl : s.lifeOf i = .running ∨ s.lifeOf i = .sleepWait) : P (beginStopping i cause s) := by
  have he := fun step => h.enterOn (i := i) (target := .stopping) (cause := cause) (step := step) hs
    (by simp) (by simp) (by simp) (by rcases hl with hl | hl <;> rw [hl] <;> rfl)
    (.inl (may_move (by rcases hl with hl | hl <;> rw [hl] <;> rfl)))
  simp only [Machine.beginStopping]
  split
  · exact h.endStopping (he _) (by simp)
  · exact he _

theorem beginResetting {s : State} {i : SlotId} (hs : P s) (hl : s.lifeOf i = .running) :
    P (beginResetting i s) :=
  h.enterOn hs (by simp) (by simp) (by simp) (by rw [hl]; rfl) (.inl (may_move (by rw [hl]; rfl)))

theorem beginSleepWait {s : State} {i : SlotId} {o : SleepOrigin} (hs : P s)
    (hl : s.lifeOf i = .running) : P (beginSleepWait i o s) := by
  have he := fun cause step => h.enterOn (i := i) (target := .sleepWait) (cause := cause)
    (step := step) hs (by simp) (by simp) (by simp) (by rw [hl]; rfl) (.inl (may_move (by rw [hl]; rfl)))
  simp only [Machine.beginSleepWait]
  split
  · exact h.occur (h.slot (he _ _) rfl rfl rfl (.inl rfl) (.inl rfl))
  · exact h.slot (he _ _) rfl rfl rfl (.inl rfl) (.inl rfl)

theorem requestSleep {s : State} {i : SlotId} {o : SleepOrigin} (hs : P s)
    (hl : s.lifeOf i = .running) : P (requestSleep i o s) := by
  unfold Machine.requestSleep
  split
  · exact h.beginEntering hs (.inl hl)
  · exact h.beginSleepWait hs hl

theorem autoEnqueue {s : State} {i : SlotId} {o : QueueOrigin} (hs : P s)
    (hc : s.autoClaimable i = true) (hn : s.listed i = false ∨ ∃ s₀ : State, P s₀ ∧
      (s₀.staging.settleTimer.isSome = true ∨ s₀.staging.rail = .lost) ∧
      s.staging.shedList = s₀.staging.shedList) : P (Machine.enqueue i o s) := by
  simp [State.autoClaimable, State.claimable, State.railGood] at hc
  exact h.enqueue hs (by simp [hc]) (fun _ => hc.2) (.inl hc.1.2)
    (hn.elim .inl fun hn => .inr (.inr hn))

theorem wake {s : State} {i : SlotId} {o : WakeOrigin} (hs : P s)
    (ho : o.ignoredWhenListed = true ∨ s.listed i = false ∨ strayWake P) : P (wake i o s) := by
  unfold Machine.wake
  split
  · exact hs
  · rename_i hg
    have hn : s.listed i = false ∨ strayWake P := by
      rcases ho with ho | ho
      · exact .inl (by simpa [ho] using hg)
      · exact ho
    split
    case h_1 =>
      unfold wakeFromOff
      split
      · rename_i hc
        simp only [Bool.and_eq_true] at hc
        exact h.autoEnqueue hs hc.2 (.inl (by simpa [hc.1.1] using hg))
      · exact hs
    case h_2 hl => exact h.enterRunning hs (by rw [hl]; rfl)
    case h_3 => exact h.slot hs rfl rfl rfl (.inl rfl) (.inr hn)
    case h_4 hl => exact h.beginWaking hs (by rw [hl]; rfl) (hn.imp .inl id)
    all_goals exact hs

/-- A wake that the shed list does not hold back takes its slot out of it. -/
theorem unlistedWake {s : State} {i : SlotId} {o : WakeOrigin} (hs : P s)
    (ho : o.ignoredWhenListed = false) : P (Machine.unlist i (Machine.wake i o s)) := by
  rw [← wake_unlist i o s ho]
  exact h.wake (h.unlist hs) (.inr (.inl (by simp)))

theorem releaseSleep {s : State} (i : SlotId) (hs : P s) : P (releaseSleep s i) := by
  unfold Machine.releaseSleep
  split
  · rename_i hl _; exact h.beginEntering hs (.inr hl)
  · exact hs

theorem releaseSleeps {s : State} (hs : P s) : P (releaseSleeps s) :=
  foldl (fun hs => h.releaseSleep _ hs) hs

theorem restoreNext {s : State} (hs : P s) : P (restoreNext s) := by
  unfold Machine.restoreNext
  split
  · exact h.staging hs rfl rfl rfl (.inl rfl)
  · rename_i p _
    extract_lets _ taken _ watched
    have htaken : P taken := h.unlist (h.staging hs rfl rfl rfl (.inl rfl))
    have hlisted : taken.listed p.slot = false := unlist_listed_self _ _
    have hwatched : P watched := by
      unfold watched
      split
      · exact h.staging htaken rfl rfl rfl (.inl rfl)
      · exact htaken
    have hkept : watched.listed p.slot = false ∧ watched.slots = taken.slots ∧
        watched.lines = taken.lines ∧ watched.staging.rail = taken.staging.rail := by
      unfold watched
      split
      · exact ⟨hlisted, rfl, rfl, rfl⟩
      · exact ⟨hlisted, rfl, rfl, rfl⟩
    have hclaim : watched.autoClaimable p.slot = taken.autoClaimable p.slot := by
      simp only [State.autoClaimable, State.claimable, State.lifeOf, State.slot, State.isPresent,
        State.lineSet, State.railGood, hkept]
    clear_value watched taken
    split
    · exact h.wake hwatched (.inr (.inl hkept.1))
    · split
      · rename_i hc
        exact h.autoEnqueue hwatched (hclaim.trans hc) (.inl hkept.1)
      · exact htaken
    · exact htaken

/-! ### The finish of a step -/

theorem nextBusiness {s t : State} (hs : P s) (ht : nextBusiness s = some t) : P t := by
  unfold Machine.nextBusiness at ht
  split at ht
  · cases ht; exact h.restoreNext hs
  · split at ht
    · cases ht
    · rename_i w rest hw
      cases ht
      refine h.wake (h.setWakes hs (by rw [hw]; exact List.subset_cons_self _ _)) ?_
      cases ho : w.origin.ignoredWhenListed
      · exact .inr (.inr ⟨s, hs, w, by simp [hw], ho⟩)
      · exact .inl rfl

theorem drain {s : State} (n : Nat) (hs : P s) : P (drain n s) := by
  induction n generalizing s with
  | zero => exact hs
  | succ n ih =>
    unfold Machine.drain
    split
    · rename_i hb; exact ih (h.nextBusiness hs hb)
    · exact hs

theorem finish {s : State} (hs : P s) : P (finish s) :=
  h.releaseHead (h.drain _ (h.releaseSleeps hs))

/-! ### Slots: lines, limits and buttons -/

theorem setSlotQuiet {s : State} {i : SlotId} {x : Slot} (hs : P s) (h1 : x.state = (s.slot i).state)
    (h2 : x.holds = (s.slot i).holds) (h3 : x.hostHolds = (s.slot i).hostHolds)
    (h4 : x.override = (s.slot i).override)
    (h5 : x.deferredWake = (s.slot i).deferredWake := by rfl) : P (s.setSlot i x) :=
  h.slot hs h1 h2 h3 (.inl h4) (.inl h5)

theorem pgoodRises {s : State} {i : SlotId} (hs : P s) : P (pgoodRises i s) := by
  unfold Machine.pgoodRises
  split
  case h_1 hl => exact h.beginReleasing hs hl
  case h_2 hl =>
    split
    · exact hs
    · exact h.secondStepOfWaking hs (by rw [hl]; rfl)
  all_goals exact hs

theorem pgoodFalls {s : State} {i : SlotId} (hs : P s) : P (pgoodFalls i s) := by
  unfold Machine.pgoodFalls
  split
  · rename_i hw
    refine h.enterFaulted hs ?_
    unfold State.lifeOf
    unfold Slot.watchesLoss at hw
    split at hw <;> rename_i hl <;> first | (rw [hl]; rfl) | cases hw
  · exact hs

theorem rdyRises {s : State} {i : SlotId} (hs : P s) : P (rdyRises i s) := by
  unfold Machine.rdyRises
  split
  case h_1 hl => exact h.endStopping hs hl
  case h_2 hl => exact h.readyInEntering hs hl
  all_goals exact hs

theorem rdyFalls {s : State} {i : SlotId} (hs : P s) : P (rdyFalls i s) := by
  unfold Machine.rdyFalls
  split
  · rename_i hl; exact h.endWaking hs (by rw [hl.1]; rfl)
  · exact hs

theorem presenceRecorded {s : State} {i : SlotId} {cause : Cause} (hs : P s) :
    P (presenceRecorded i cause s) := h.occur (h.setSlotQuiet hs rfl rfl rfl rfl)

theorem moduleRemoved {s : State} {i : SlotId} (hs : P s) : P (moduleRemoved i s) := by
  unfold Machine.moduleRemoved
  split
  · exact h.presenceRecorded (h.unlist hs)
  · exact h.enterOff hs (by simp)

theorem powerUpRunsOut {s : State} {i : SlotId} (hs : P s) : P (powerUpRunsOut i s) := by
  unfold Machine.powerUpRunsOut
  split
  · rename_i hl; exact h.enterFaulted hs (by rw [hl]; rfl)
  · exact hs

theorem resetHoldRunsOut {s : State} {i : SlotId} (hs : P s) : P (resetHoldRunsOut i s) := by
  unfold Machine.resetHoldRunsOut
  split
  · rename_i hl; exact h.enterRunning hs (by rw [hl]; rfl)
  · exact hs

theorem resettingRunsOut {s : State} {i : SlotId} (hs : P s) : P (resettingRunsOut i s) := by
  unfold Machine.resettingRunsOut
  split
  · rename_i hl; exact h.enterRunning hs (by rw [hl]; rfl)
  · exact hs

theorem stopRunsOut {s : State} {i : SlotId} (hs : P s) : P (stopRunsOut i s) := by
  unfold Machine.stopRunsOut
  split
  · exact h.enterOff hs (by simp)
  · exact hs

theorem sleepEntryRunsOut {s : State} {i : SlotId} (hs : P s) : P (sleepEntryRunsOut i s) := by
  unfold Machine.sleepEntryRunsOut
  split
  · rename_i hl; exact h.enterRunning hs (by rw [hl]; rfl)
  · exact hs

theorem wakingPowerUpRunsOut {s : State} {i : SlotId} (hs : P s) :
    P (wakingPowerUpRunsOut i s) := by
  unfold Machine.wakingPowerUpRunsOut
  split
  · rename_i hl; exact h.enterFaulted hs (by rw [hl.1]; rfl)
  · exact hs

theorem wakeRunsOut {s : State} {i : SlotId} (hs : P s) : P (wakeRunsOut i s) := by
  unfold Machine.wakeRunsOut
  split
  · rename_i hl; exact h.enterFaulted hs (by rw [hl.1]; rfl)
  · exact hs

theorem holdWaitRunsOut {s : State} {i : SlotId} (hs : P s) : P (holdWaitRunsOut i s) := by
  simp only [Machine.holdWaitRunsOut]
  split
  · rename_i hl _
    split
    · exact h.setSlotQuiet hs rfl rfl rfl rfl
    · exact h.enterRunning hs (by simp [State.lifeOf, hl, LifeState.railOn])
  · exact hs

theorem applyVerdict {s : State} {i : SlotId} {v : Verdict} (hs : P s)
    (hl : (s.lifeOf i).railOn = true) :
    P (applyVerdict i v s) := by
  simp only [Machine.applyVerdict]
  split
  · exact h.setSlotQuiet hs rfl rfl rfl rfl
  · exact h.enterRunning hs hl

omit h in
theorem railOn_of_awaitsVerdict {s : State} {i : SlotId} (hv : (s.slot i).awaitsVerdict = true) :
    (s.lifeOf i).railOn = true := by
  simp only [Slot.awaitsVerdict, Bool.and_eq_true, beq_iff_eq] at hv
  rw [State.lifeOf, hv.1]; rfl

theorem verdictRunsOut {s : State} {i : SlotId} (hs : P s) : P (verdictRunsOut i s) := by
  simp only [Machine.verdictRunsOut]
  split
  · rename_i hv
    simp only [Bool.and_eq_true] at hv
    exact h.applyVerdict hs (railOn_of_awaitsVerdict hv.1)
  · exact hs

theorem idleRunsOut {s : State} {i : SlotId} (hs : P s) : P (idleRunsOut i s) := by
  simp only [Machine.idleRunsOut]
  split
  · rename_i hl _
    exact h.requestSleep (h.setSlotQuiet hs rfl rfl rfl rfl) (by simpa [State.lifeOf] using hl)
  · exact hs

theorem activity {s : State} {i : SlotId} (hs : P s) : P (activity i s) := by
  simp only [Machine.activity]
  split
  · exact h.setSlotQuiet hs rfl rfl rfl rfl
  · exact hs

theorem sleepLineRises {s : State} {i : SlotId} (hs : P s) : P (sleepLineRises i s) := by
  unfold Machine.sleepLineRises
  split
  · rename_i hl; exact h.requestSleep hs hl
  · exact hs

theorem heartbeatRises {s : State} {i : SlotId} (hs : P s) : P (heartbeatRises i s) := by
  simp only [Machine.heartbeatRises]
  split
  · exact h.setSlotQuiet hs rfl rfl rfl rfl
  · exact hs

theorem heartbeatRunsOut {s : State} {i : SlotId} (hs : P s) : P (heartbeatRunsOut i s) := by
  simp only [Machine.heartbeatRunsOut]
  split
  · rename_i hl _
    split
    · exact h.setSlotQuiet (h.occur hs) rfl rfl rfl rfl
    · split
      · exact h.enterFaulted hs (by rw [State.lifeOf, hl]; rfl)
      · have hr : (s.setSlot i { s.slot i with
            fallback := true
            recoveryCount := min 15 ((s.slot i).recoveryCount + 1) }).lifeOf i = .running := by
          simpa [State.lifeOf] using hl
        exact h.enqueue (h.setSlotQuiet hs rfl rfl rfl rfl) (by simp [hr]) (by simp [hr]) (.inr hr)
          (.inr (.inl hr))
  · exact hs

theorem claim {s : State} {i : SlotId} {o : QueueOrigin} (hs : P s) (hl : s.lifeOf i = .off)
    (hr : s.railGood = true) : P (Machine.enqueue i o ((Machine.unlist i s).setSlot i
      { (Machine.unlist i s).slot i with override := false })) := by
  refine h.enqueue (h.slot (h.unlist hs) rfl rfl rfl (.inr rfl) (.inl rfl)) ?_ ?_ (.inl ?_)
    (.inl (by simp))
  · simp only [State.lifeOf] at hl; simp [State.lifeOf, hl]
  · simp
  · simpa [State.railGood, Machine.unlist] using hr

theorem pressActs {s : State} {i : SlotId} (hs : P s) : P (pressActs i s) := by
  unfold Machine.pressActs
  split
  case h_1 hl =>
    split
    · rename_i hc
      simp only [State.claimable, Bool.and_eq_true] at hc
      exact h.claim hs hl hc.2
    · exact hs
  case h_2 => exact h.unlistedWake hs rfl
  all_goals exact hs

theorem buttonPressed {s : State} {i : SlotId} (hs : P s) : P (buttonPressed i s) :=
  h.setSlotQuiet (h.pressActs (h.occur hs)) rfl rfl rfl rfl

theorem stopHold {s : State} {i : SlotId} (hs : P s) : P (stopHold i s) :=
  h.setSlotQuiet hs rfl rfl rfl rfl

theorem holdRunsOut {s : State} {i : SlotId} (hs : P s) : P (holdRunsOut i s) := by
  simp only [Machine.holdRunsOut]
  split
  · exact hs
  · split
    · exact h.stopHold hs
    · exact h.override (h.stopHold hs)

/-! ### The Staging Unit -/

theorem headOffTimeElapses {s : State} (hs : P s) : P (headOffTimeElapses s) := by
  unfold Machine.headOffTimeElapses
  split
  · exact hs
  · exact h.setSlotQuiet hs rfl rfl rfl rfl

theorem railTakes {s : State} {i : SlotId} (hs : P s) : P (railTakes s i) := by
  unfold Machine.railTakes
  split
  case h_1 | h_2 => exact hs
  all_goals exact h.enterOff (h.setSlotQuiet hs rfl rfl rfl rfl) (by simp)

omit h in
/-- A slot that a rail loss has passed over is OFF or FAULTED, and stays so. -/
theorem railTakes_down (s : State) (j i : SlotId)
    (hd : j = i ∨ s.lifeOf i = .off ∨ s.lifeOf i = .faulted) :
    (Machine.railTakes s j).lifeOf i = .off ∨ (Machine.railTakes s j).lifeOf i = .faulted := by
  by_cases hij : i = j
  · subst hij
    unfold Machine.railTakes
    split <;> simp_all
  · have hd' := hd.resolve_left (fun e => hij e.symm)
    have key : (Machine.railTakes s j).lifeOf i = s.lifeOf i := by
      unfold Machine.railTakes
      split
      case h_1 | h_2 => rfl
      all_goals
        rw [enter_lifeOf_ne _ _ _ _ hij]
        simp [State.lifeOf, State.slot_setSlot_ne _ _ hij]
    rw [key]; exact hd'

omit h in
theorem railTakes_all_down (l : List SlotId) (s : State) (i : SlotId)
    (hd : i ∈ l ∨ s.lifeOf i = .off ∨ s.lifeOf i = .faulted) :
    (l.foldl Machine.railTakes s).lifeOf i = .off ∨
      (l.foldl Machine.railTakes s).lifeOf i = .faulted := by
  induction l generalizing s with
  | nil => simpa using hd
  | cons j l ih =>
    refine ih _ ?_
    by_cases hj : j = i
    · exact .inr (railTakes_down s j i (.inl hj))
    · rcases hd with hd | hd
      · rcases List.mem_cons.mp hd with e | e
        · exact absurd e.symm hj
        · exact .inl e
      · exact .inr (railTakes_down s j i (.inr hd))

theorem railLost {s : State} (hs : P s) : P (railLost s) := by
  unfold Machine.railLost
  exact h.occur (h.emptied (foldl (fun hs => h.railTakes hs) hs)
    (fun i => railTakes_all_down _ _ i (.inl (List.mem_finRange i))) rfl rfl rfl)

theorem mainGoodFalls {s : State} (hs : P s) : P (mainGoodFalls s) := by
  unfold Machine.mainGoodFalls
  split
  · exact h.railLost hs
  · exact h.staging hs rfl rfl rfl (.inr (.inl rfl))

theorem resume {s : State} {o : QueueOrigin} {i : SlotId} (hs : P s)
    (hn : ∃ s₀ : State, P s₀ ∧ (s₀.staging.settleTimer.isSome = true ∨ s₀.staging.rail = .lost) ∧
      s.staging.shedList = s₀.staging.shedList) : P (resume o s i) := by
  unfold Machine.resume
  split
  · rename_i hc
    split
    case h_1 | h_2 => exact hs
    all_goals exact h.autoEnqueue hs hc (.inr hn)
  · exact hs

omit h in
/-- A slot that joins the start queue leaves the shed list as it is. -/
theorem resume_shedList (o : QueueOrigin) (s : State) (i : SlotId) :
    (Machine.resume o s i).staging.shedList = s.staging.shedList := by
  have he : ∀ o, (Machine.enqueue i o s).staging.shedList = s.staging.shedList := by
    intro o; simp [Machine.enqueue, told_shedList, leavesShedList]
  unfold Machine.resume
  split
  · split <;> first | rfl | exact he _
  · rfl

theorem resumeAll {s₀ s : State} {o : QueueOrigin} (l : List SlotId) (h₀ : P s₀)
    (hr : s₀.staging.settleTimer.isSome = true ∨ s₀.staging.rail = .lost) (hs : P s)
    (hl : s.staging.shedList = s₀.staging.shedList) : P (l.foldl (Machine.resume o) s) := by
  induction l generalizing s with
  | nil => exact hs
  | cons i l ih =>
    exact ih (h.resume hs ⟨s₀, h₀, hr, hl⟩) ((resume_shedList o s i).trans hl)

theorem railReturns {s : State} (hs : P s)
    (hr : s.staging.settleTimer.isSome = true ∨ s.staging.rail = .lost) : P (railReturns s) := by
  unfold Machine.railReturns
  extract_lets _ good resumed forgotten _ marked latched
  have hgood : P good := h.returned hs hr
  have hresumed : P resumed := h.resumeAll _ hs hr hgood rfl
  clear_value resumed
  have hforgotten : P forgotten := h.slots hresumed fun i x => ⟨rfl, rfl, rfl, rfl, rfl⟩
  have hmarked : P marked := h.staging hforgotten rfl rfl rfl (.inl rfl)
  have hlatched : P latched := h.occur hmarked
  clear_value latched
  split
  · unfold Staging.escalating
    exact h.staging hlatched rfl rfl rfl (.inl rfl)
  · exact hlatched

theorem mainGoodRises {s : State} (hs : P s) : P (mainGoodRises s) := by
  unfold Machine.mainGoodRises
  split
  · rename_i hr _
    split
    · exact h.railReturns hs (.inr hr)
    · exact h.staging hs rfl rfl rfl (.inr (.inr hr))
  · exact hs

theorem settleRunsOut {s : State} (hs : P s) : P (settleRunsOut s) := by
  unfold Machine.settleRunsOut
  split
  · rename_i hr
    exact h.railReturns hs (.inl (by simp [hr]))
  · exact hs

omit h in
theorem secondStepOfWaking_lifeOf_ne {i j : SlotId} (s : State) (hj : j ≠ i) :
    (Machine.secondStepOfWaking i s).lifeOf j = s.lifeOf j := by
  simp only [Machine.secondStepOfWaking, Machine.endWaking]
  split
  · simp [State.lifeOf, State.slot_setSlot_ne _ _ hj]
  · rw [enter_lifeOf_ne _ _ _ _ hj]; simp [State.lifeOf, State.slot_setSlot_ne _ _ hj]

omit h in
theorem beginWaking_lifeOf_ne {i j : SlotId} (cause : Cause) (s : State) (hj : j ≠ i) :
    (Machine.beginWaking i cause s).lifeOf j = s.lifeOf j := by
  simp only [Machine.beginWaking]
  split
  · rw [secondStepOfWaking_lifeOf_ne _ hj, enter_lifeOf_ne _ _ _ _ hj]
  · rw [enter_lifeOf_ne _ _ _ _ hj]

omit h in
theorem beginEntering_lifeOf_ne {i j : SlotId} (cause : Cause) (s : State) (hj : j ≠ i) :
    (Machine.beginEntering i cause s).lifeOf j = s.lifeOf j := by
  simp only [Machine.beginEntering, Machine.readyInEntering]
  split
  · split
    · rw [enter_lifeOf_ne _ _ _ _ hj, enter_lifeOf_ne _ _ _ _ hj]
    · rw [beginWaking_lifeOf_ne _ _ hj, enter_lifeOf_ne _ _ _ _ hj]
  · rw [enter_lifeOf_ne _ _ _ _ hj]

omit h in
theorem beginStopping_lifeOf_ne {i j : SlotId} (cause : Cause) (s : State) (hj : j ≠ i) :
    (Machine.beginStopping i cause s).lifeOf j = s.lifeOf j := by
  simp only [Machine.beginStopping, Machine.endStopping]
  split
  · rw [enter_lifeOf_ne _ _ _ _ hj, enter_lifeOf_ne _ _ _ _ hj]
  · rw [enter_lifeOf_ne _ _ _ _ hj]

omit h in
theorem shedSlot_lifeOf_ne {i j : SlotId} (s : State) (hj : j ≠ i) :
    (Machine.shedSlot s i).lifeOf j = s.lifeOf j := by
  simp only [Machine.shedSlot]
  split
  · rw [beginEntering_lifeOf_ne _ _ hj]; rfl
  · rw [beginStopping_lifeOf_ne _ _ hj]; rfl

omit h in
/-- A shed lists its own slot alone. -/
theorem shedSlot_listed_ne {i j : SlotId} (s : State) (hj : j ≠ i) (hn : s.listed j = false) :
    (Machine.shedSlot s i).listed j = false := by
  have hm : ∀ a : ShedAction, (s.setStaging { s.staging with
      shedList := s.staging.shedList ++ [{ slot := i, action := a }] }).listed j = false := by
    intro a
    have : (i == j) = false := by simpa using fun e => hj e.symm
    simp only [State.listed] at hn
    simp [State.listed, List.any_append, hn, this]
  have hw : ∀ (t : State) (c : Cause), t.listed j = false →
      (Machine.beginWaking i c t).listed j = false := by
    intro t c ht
    simp only [Machine.beginWaking, Machine.secondStepOfWaking, Machine.endWaking]
    repeat' split
    · exact enter_listed_of_false ht
    · refine enter_listed_of_false ?_
      simpa using enter_listed_of_false ht
    · exact enter_listed_of_false ht
  simp only [Machine.shedSlot]
  split
  · simp only [Machine.beginEntering, Machine.readyInEntering]
    repeat' split
    · exact enter_listed_of_false (enter_listed_of_false (hm _))
    · exact hw _ _ (enter_listed_of_false (hm _))
    · exact enter_listed_of_false (hm _)
  · simp only [Machine.beginStopping, Machine.endStopping]
    split
    · exact enter_listed_of_false (enter_listed_of_false (hm _))
    · exact enter_listed_of_false (hm _)

theorem shedSlot {s : State} {i : SlotId} (hs : P s)
    (hl : s.lifeOf i = .running ∨ s.lifeOf i = .sleepWait) (hn : s.listed i = false) :
    P (shedSlot s i) := by
  unfold Machine.shedSlot
  extract_lets action _ marked
  have haction : marked = s.setStaging { s.staging with
      shedList := s.staging.shedList ++ [{ slot := i, action := action }] } := rfl
  clear_value marked action
  subst haction
  split
  · unfold Machine.beginEntering
    extract_lets limit entering
    have hentering : P entering := h.shed hs hl hn (.inl ⟨rfl, rfl⟩)
    have hlife : entering.lifeOf i = .entering := enter_lifeOf _ _ _ _ _
    clear_value entering
    split
    · exact h.readyInEntering hentering hlife
    · exact hentering
  · unfold Machine.beginStopping
    extract_lets limit stopping
    have hstopping : P stopping := h.shed hs hl hn (.inr ⟨rfl, rfl⟩)
    have hlife : stopping.lifeOf i = .stopping := enter_lifeOf _ _ _ _ _
    clear_value stopping
    split
    · exact h.endStopping hstopping hlife
    · exact hstopping

theorem shedAll {l : List SlotId} {s : State} (hs : P s) (hd : l.Nodup)
    (hl : ∀ i ∈ l, (s.lifeOf i = .running ∨ s.lifeOf i = .sleepWait) ∧ s.listed i = false) :
    P (l.foldl Machine.shedSlot s) := by
  induction l generalizing s with
  | nil => exact hs
  | cons i l ih =>
    rw [List.nodup_cons] at hd
    have hi := hl i (by simp)
    refine ih (h.shedSlot hs hi.1 hi.2) hd.2 fun j hj => ?_
    have hne : j ≠ i := by rintro rfl; exact hd.1 hj
    have hj' := hl j (by simp [hj])
    rw [shedSlot_lifeOf_ne _ hne]
    exact ⟨hj'.1, shedSlot_listed_ne _ hne hj'.2⟩

theorem escalate {s : State} (hs : P s) : P (escalate s) := by
  unfold Machine.escalate
  split
  · exact h.staging hs rfl rfl rfl (.inl rfl)
  · extract_lets found _ leveled shed
    have hleveled : P leveled := h.staging hs rfl rfl rfl (.inl rfl)
    have hshed : P shed := by
      refine h.shedAll hleveled ((List.nodup_finRange 6).filter _) fun i hi => ?_
      have he := (List.mem_filter.mp hi).2
      simp only [State.eligible, Bool.and_eq_true, Bool.or_eq_true, beq_iff_eq,
        Bool.not_eq_true'] at he
      exact ⟨he.1.1, he.2⟩
    clear_value shed
    exact h.staging hshed rfl rfl rfl (.inl rfl)

theorem escalationRunsOut {s : State} (hs : P s) : P (escalationRunsOut s) := by
  unfold Machine.escalationRunsOut
  split
  · exact h.escalate hs
  · exact hs

theorem thermRises {s : State} (hs : P s) : P (thermRises s) := by
  have h1 : P (s.setStaging s.staging.heated) := by
    unfold Staging.heated
    dsimp only
    split <;> exact h.staging hs rfl rfl rfl (.inl rfl)
  simp only [Machine.thermRises, latchThermal]
  split
  · exact h.occur (h.escalate h1)
  · exact h.occur h1

theorem thermFalls {s : State} (hs : P s) : P (thermFalls s) := by
  simp only [Machine.thermFalls]
  split <;> exact h.staging hs rfl rfl rfl (.inl rfl)

theorem coolRunsOut {s : State} (hs : P s) : P (coolRunsOut s) := by
  simp only [Machine.coolRunsOut]
  split
  · exact hs
  · split <;> exact h.staging hs rfl rfl rfl (.inl rfl)

/-! ### Channels and timers -/

theorem settleNotice {s : State} {c : ChannelId} (hs : P s) : P (settleNotice c s) :=
  h.compose (h.endNotice hs rfl)

theorem offerRunsOut {s : State} {c : ChannelId} (hs : P s) : P (offerRunsOut c s) := by
  simp only [Machine.offerRunsOut]
  split
  · split
    · exact h.channel hs rfl rfl rfl (.inl rfl)
    · exact h.channel (h.endNotice hs rfl) rfl rfl rfl (.inl rfl)
  · exact hs

theorem serviceRunsOut {s : State} {c : ChannelId} (hs : P s) : P (serviceRunsOut c s) := by
  simp only [Machine.serviceRunsOut]
  split
  · exact h.settleNotice (h.channel hs rfl rfl rfl (.inl rfl))
  · exact hs

theorem timerRunsOut {s : State} {t : TimerId} (hs : P s) : P (timerRunsOut t s) := by
  unfold Machine.timerRunsOut
  split
  · exact h.setTimer (h.occur hs)
  · exact hs

/-! ### Lines -/

theorem edgeAt {s : State} {e : EntryId} {r : Bool} (hs : P s) : P (edgeAt e r s) := by
  unfold Machine.edgeAt
  split
  · exact h.occur hs
  · exact hs

theorem deliver {s : State} {p : Pin} {l : Bool} (hs : P s) : P (deliver p l s) := by
  unfold Machine.deliver
  split
  case h_1 => exact h.edgeAt hs
  case h_2 => exact h.mainGoodRises hs
  case h_3 => exact h.mainGoodFalls hs
  case h_4 => exact h.thermRises hs
  case h_5 => exact h.thermFalls hs
  case h_6 => exact h.edgeAt (h.wake hs (.inl rfl))
  case h_7 => exact h.edgeAt hs
  case h_8 => exact h.edgeAt hs
  case h_9 => exact h.sleepLineRises hs
  case h_11 => exact h.buttonPressed hs
  case h_12 => exact h.stopHold hs
  case h_13 => exact h.presenceRecorded hs
  case h_14 => exact h.moduleRemoved hs
  case h_15 => exact h.heartbeatRises hs
  case h_17 => exact h.activity hs
  case h_19 => exact h.rdyRises hs
  case h_20 => exact h.rdyFalls hs
  case h_21 => exact h.pgoodRises hs
  case h_22 => exact h.pgoodFalls hs
  all_goals exact hs

theorem edge {s : State} {p : Pin} {l : Bool} (hs : P s) : P (edge p l s) :=
  h.deliver (h.setPinLine hs)

theorem lineTakes {s : State} {p : Pin} {l : Bool} (hs : P s) : P (lineTakes p l s) := by
  unfold Machine.lineTakes
  split
  · exact h.setPinLine hs
  · exact h.edge hs

/-! ### Sessions and the link -/

theorem haltTimers {s : State} (hs : P s) : P (haltTimers s) :=
  h.outside hs rfl rfl rfl rfl rfl rfl rfl

theorem warmRestart {s : State} (hs : P s) : P (warmRestart s) := by
  unfold Machine.warmRestart
  extract_lets cleared rebuilt discarded
  have hcleared : P cleared := foldl (fun hs => h.clearEntry hs)
    (h.setLink (x := s.link.restarted) hs (.inr (by simp [Link.restarted])))
  clear_value cleared
  have hdiscarded : P discarded := h.haltTimers (h.discard (h.restart hcleared))
  clear_value discarded
  exact h.outside hdiscarded rfl rfl rfl rfl rfl rfl rfl

theorem discardFrame {s : State} {r : DiscardReason} (hs : P s) : P (Machine.discard r s) :=
  h.occur (h.setLink hs (.inl (Nat.le_refl _)))

theorem judge {s : State} {f : Frame} {c : Half} (hs : P s) : P (judge f c s) := by
  unfold Machine.judge queueRequest
  split
  · exact h.discardFrame hs
  · split
    · exact h.discardFrame hs
    · split
      · exact h.discardFrame hs
      · rename_i hr
        refine h.setLink hs (.inr ?_)
        simp; omega

theorem takeByte {s : State} {b : Byte} (hs : P s) : P (takeByte b s) := by
  have hr : ∀ {r}, P (receiving r s) := h.setLink hs (.inl (Nat.le_refl _))
  unfold Machine.takeByte
  split
  · split
    · exact hr
    · exact hs
  · split
    · exact h.discardFrame hs
    · exact hr
  · exact hr
  · exact hr
  · exact hr
  · exact hr
  · exact h.judge hs

theorem frameArrives {s : State} {f : Frame} {c : Half} (hs : P s) : P (frameArrives f c s) := by
  unfold Machine.frameArrives
  repeat' split
  · exact hs
  · exact h.discardFrame hs
  · exact h.judge hs

theorem resetLink {s : State} (hs : P s) : P (resetLink s) := by
  have hc : ∀ ch : Channel, ch.linkReset.pending = ch.pending ∧ ch.linkReset.inFlight = ch.inFlight ∧
      ch.linkReset.state = ch.state ∧ ch.linkReset.itemLimit = ch.itemLimit := by
    intro ch; unfold Channel.linkReset; split <;> simp
  have hlink : P (s.setLink s.link.broken) := h.setLink hs (.inr (by simp [Link.broken]))
  have hpriority : P ((s.setLink s.link.broken).setChannel .priority s.priority.linkReset) :=
    h.channel hlink (hc _).1 (hc _).2.1 (by rw [(hc _).2.2.1]; rfl) (.inl (hc _).2.2.2)
  have hroutine : P (((s.setLink s.link.broken).setChannel .priority
      s.priority.linkReset).setChannel .routine s.routine.linkReset) :=
    h.channel hpriority (hc _).1 (hc _).2.1 (by rw [(hc _).2.2.1]; rfl) (.inl (hc _).2.2.2)
  unfold Machine.resetLink
  extract_lets reset
  have hreset : P reset := hroutine
  split
  · exact h.warmRestart hreset
  · exact hreset

theorem frameSent {s : State} (hs : P s) : P (frameSent s) := by
  have h1 : P (s.setLink { s.link with tx := .idle }) := h.setLink hs (.inl (Nat.le_refl _))
  unfold Machine.frameSent
  split
  · exact hs
  · dsimp only
    split
    · exact h.warmRestart h1
    · exact h1
  · exact h.channel h1 rfl rfl rfl (.inl rfl)

theorem rxdChanges {s : State} {l : Bool} (hs : P s) : P (rxdChanges l s) := by
  unfold Machine.rxdChanges
  repeat' split
  · exact hs
  · exact h.setLink hs (.inl (Nat.le_refl _))
  · exact h.resetLink hs
  · exact h.setLink hs (.inl (Nat.le_refl _))

theorem beginNotice {s : State} {c : ChannelId} (hs : P s) : P (beginNotice c s) :=
  h.setLink (h.channel hs rfl rfl rfl (.inl rfl)) (.inl (by simp))

theorem arbitrate {s : State} (hs : P s) : P (arbitrate s) := by
  unfold Machine.arbitrate
  repeat' split
  · exact h.setLink hs (.inl (Nat.le_refl _))
  · exact h.beginNotice hs
  · exact h.beginNotice hs
  all_goals exact hs

/-! ### Requests -/

omit h in
theorem answered_onSlot {args : List Byte} {s : State} {f : SlotId → State → Answered} (hs : P s)
    (hf : ∀ i, P (f i s).state) : P (onSlot args s f).state := by
  unfold onSlot
  repeat' split
  · exact hf _
  all_goals exact hs

omit h in
theorem answered_onSlotWith {α : Type} {field : Byte → Option α} {args : List Byte} {s : State}
    {f : SlotId → α → State → Answered} (hs : P s) (hf : ∀ i v, P (f i v s).state) :
    P (onSlotWith field args s f).state := by
  unfold onSlotWith
  repeat' split
  · exact hf _ _
  all_goals exact hs

theorem eventConfig {args : List Byte} {s : State} (hs : P s) : P (eventConfig args s).state := by
  unfold Machine.eventConfig
  repeat' split
  · exact h.reconfigure hs
  all_goals exact hs

theorem eventClear {args : List Byte} {s : State} (hs : P s) : P (eventClear args s).state := by
  unfold Machine.eventClear
  repeat' split
  · exact foldl (fun hs => h.clearEntry hs) hs
  all_goals exact hs

theorem eventPost {args : List Byte} {s : State} (hs : P s) : P (eventPost args s).state := by
  unfold Machine.eventPost
  repeat' split
  · exact h.occur hs
  all_goals exact hs

theorem inputConfig {args : List Byte} {s : State} (hs : P s) : P (inputConfig args s).state := by
  unfold Machine.inputConfig
  repeat' split
  · exact h.setBoard hs
  all_goals exact hs

omit h in
theorem rangeField_bounds {low high n v : Nat} (hv : rangeField low high n = some v) :
    low ≤ v ∧ v ≤ high := by
  unfold rangeField at hv
  split at hv
  · rename_i hb; cases hv; exact hb
  · cases hv

theorem channelOpen {args : List Byte} {s : State} (hs : P s) : P (channelOpen args s).state := by
  have open_ : ∀ (c : ChannelId) (x : Channel), x.pending = (s.channel c).pending →
      x.inFlight = (s.channel c).inFlight → x.state = .idle →
      (s.channel c).state.outstanding = false → (1 ≤ x.itemLimit ∧ x.itemLimit ≤ 12) →
      P (Machine.compose c (s.setChannel c x)) := fun c x h1 h2 h3 h4 h5 =>
    h.compose (h.channel hs h1 h2 (by rw [h3, h4]; rfl) (.inr ⟨by rw [h3]; rfl, h5⟩))
  unfold Machine.channelOpen
  repeat' first | split | dsimp only
  all_goals try exact hs
  all_goals
    rename_i hlimit _ _ hst
    exact open_ _ _ rfl rfl rfl (by rw [hst]; rfl) (rangeField_bounds hlimit)

theorem channelClose {args : List Byte} {s : State} (hs : P s) : P (channelClose args s).state := by
  have close : ∀ c, (s.channel c).state.outstanding = false →
      P (s.setChannel c { s.channel c with state := .closed }) :=
    fun c hc => h.channel hs rfl rfl (by rw [hc]; rfl) (.inl rfl)
  unfold Machine.channelClose
  repeat' split
  all_goals first
    | exact hs
    | exact h.endNotice hs rfl
    | (rename_i hst; exact close _ (by rw [hst]; rfl))

theorem acceptNotice {args : List Byte} {s : State} (hs : P s) : P (acceptNotice args s).state := by
  have accept : ∀ c, (s.channel c).state = .offered →
      P (s.setChannel c (s.channel c).accepted) :=
    fun c hc => h.channel hs rfl rfl (by rw [hc]; rfl) (.inl rfl)
  unfold Machine.acceptNotice
  repeat' first | split | dsimp only
  all_goals first
    | exact hs
    | (rename_i hst _; exact accept _ hst)

theorem settleRequest {args : List Byte} {s : State} (hs : P s) :
    P (settleRequest args s).state := by
  unfold Machine.settleRequest
  repeat' first | split | dsimp only
  all_goals first | exact hs | exact h.settleNotice hs

theorem slotConfig {args : List Byte} {s : State} (hs : P s) : P (slotConfig args s).state := by
  unfold Machine.slotConfig
  repeat' split
  all_goals first | exact hs | exact h.setSlotQuiet hs rfl rfl rfl rfl

theorem slotOn {args : List Byte} {s : State} (hs : P s) : P (slotOn args s).state := by
  refine answered_onSlot hs fun i => ?_
  split
  · rename_i hl
    repeat' split
    · exact hs
    · exact hs
    · rename_i hr
      exact h.claim hs hl (by simpa using hr)
  · exact h.unlist hs
  all_goals exact hs

theorem slotStop {args : List Byte} {s : State} (hs : P s) : P (slotStop args s).state := by
  refine answered_onSlot hs fun i => ?_
  split
  case h_1 hl => exact h.unlist (h.beginStopping hs (.inl hl))
  case h_2 hl => exact h.unlist (h.beginStopping hs (.inr hl))
  case h_3 => exact h.unlist (h.enterOff hs (by simp))
  case h_4 => exact h.unlist (h.enterOff hs (by simp))
  case h_5 => exact h.unlist hs
  all_goals exact hs

theorem slotCut {args : List Byte} {s : State} (hs : P s) : P (slotCut args s).state := by
  refine answered_onSlot hs fun i => ?_
  split
  all_goals first
    | exact hs
    | exact h.unlist hs
    | exact h.unlist (h.enterOff hs (by simp))

theorem slotReset {args : List Byte} {s : State} (hs : P s) : P (slotReset args s).state := by
  refine answered_onSlot hs fun i => ?_
  split
  case h_1 hl => exact h.unlist (h.beginResetting hs hl)
  all_goals exact hs

theorem slotFaultClear {args : List Byte} {s : State} (hs : P s) :
    P (slotFaultClear args s).state := by
  refine answered_onSlot hs fun i => ?_
  split
  case h_1 => exact h.unlist (h.enterOff hs (by simp))
  all_goals exact hs

theorem slotSleep {args : List Byte} {s : State} (hs : P s) : P (slotSleep args s).state := by
  refine answered_onSlotWith hs fun i v => ?_
  split
  case h_1 hl =>
    refine h.unlist ?_
    split
    · exact h.beginEntering hs (.inl hl)
    · exact h.requestSleep hs hl
  case h_2 hl =>
    split
    · exact h.unlist (h.beginEntering hs (.inr hl))
    · exact hs
  case h_3 => exact h.unlist hs
  all_goals exact hs

theorem slotWake {args : List Byte} {s : State} (hs : P s) : P (slotWake args s).state := by
  refine answered_onSlot hs fun i => ?_
  split
  all_goals first | exact hs | exact h.unlistedWake hs rfl

theorem slotVerdict {args : List Byte} {s : State} (hs : P s) : P (slotVerdict args s).state := by
  refine answered_onSlotWith hs fun i v => ?_
  split
  · rename_i hv
    exact h.unlist (h.applyVerdict hs (railOn_of_awaitsVerdict hv))
  · exact hs

theorem slotHold {args : List Byte} {s : State} (hs : P s) : P (slotHold args s).state := by
  refine answered_onSlot hs fun i => ?_
  dsimp only
  split
  · exact h.hold hs
  · exact hs

theorem slotUnhold {args : List Byte} {s : State} (hs : P s) : P (slotUnhold args s).state := by
  refine answered_onSlot hs fun i => ?_
  dsimp only
  split
  · rename_i hp; exact h.unhold hs hp
  · exact hs

theorem slotKick {args : List Byte} {s : State} (hs : P s) : P (slotKick args s).state := by
  refine answered_onSlot hs fun i => ?_
  dsimp only
  repeat' split
  · exact hs
  · exact h.setSlotQuiet hs rfl rfl rfl rfl
  · exact hs

theorem slotRecoveryClear {args : List Byte} {s : State} (hs : P s) :
    P (slotRecoveryClear args s).state := by
  refine answered_onSlotWith hs fun i v => ?_
  exact h.setSlotQuiet hs rfl rfl rfl rfl

theorem stageConfig {args : List Byte} {s : State} (hs : P s) : P (stageConfig args s).state := by
  unfold Machine.stageConfig
  split
  · exact h.staging hs rfl rfl rfl (.inl rfl)
  · exact hs

theorem shedConfig {args : List Byte} {s : State} (hs : P s) : P (shedConfig args s).state := by
  unfold Machine.shedConfig
  split
  · split
    · rename_i enable interval cool _ _ _
      extract_lets _ set
      have hset : P set := h.staging hs rfl rfl rfl (.inl rfl)
      clear_value set
      split
      · exact h.staging hset rfl rfl rfl (.inl rfl)
      · split
        · exact h.escalate hset
        · exact hset
    · exact hs
  · exact hs

theorem timerStart {args : List Byte} {s : State} (hs : P s) : P (timerStart args s).state := by
  unfold Machine.timerStart
  repeat' first | split | dsimp only
  all_goals first | exact hs | exact h.setTimer hs

theorem timerStop {args : List Byte} {s : State} (hs : P s) : P (timerStop args s).state := by
  unfold Machine.timerStop
  repeat' split
  all_goals first | exact hs | exact h.setTimer hs

theorem carryOut {c : ReqCode} {args : List Byte} {s : State} (hs : P s) :
    P (carryOut c args s).state := by
  cases c
  case eventConfig => exact h.eventConfig hs
  case eventClear => exact h.eventClear hs
  case eventPost => exact h.eventPost hs
  case inputConfig => exact h.inputConfig hs
  case channelOpen => exact h.channelOpen hs
  case channelClose => exact h.channelClose hs
  case accept => exact h.acceptNotice hs
  case settle => exact h.settleRequest hs
  case slotConfig => exact h.slotConfig hs
  case slotOn => exact h.slotOn hs
  case slotStop => exact h.slotStop hs
  case slotCut => exact h.slotCut hs
  case slotReset => exact h.slotReset hs
  case slotFaultClear => exact h.slotFaultClear hs
  case slotSleep => exact h.slotSleep hs
  case slotWake => exact h.slotWake hs
  case slotVerdict => exact h.slotVerdict hs
  case slotHold => exact h.slotHold hs
  case slotUnhold => exact h.slotUnhold hs
  case slotKick => exact h.slotKick hs
  case slotRecoveryClear => exact h.slotRecoveryClear hs
  case stageConfig => exact h.stageConfig hs
  case shedConfig => exact h.shedConfig hs
  case timerStart => exact h.timerStart hs
  case timerStop => exact h.timerStop hs
  case slotRead => exact answered_onSlot hs fun i => hs
  case hello =>
    simp only [Machine.carryOut, hello]
    split
    · exact h.setLink hs (.inl (Nat.le_refl _))
    · exact hs
  case restart =>
    simp only [Machine.carryOut, Machine.restart]
    split
    · exact h.setLink hs (.inl (Nat.le_refl _))
    · exact hs
  case status => simp only [Machine.carryOut, status]; split <;> exact hs
  case eventRead =>
    simp only [Machine.carryOut, eventRead]
    repeat' split
    all_goals exact hs
  case eventList => simp only [Machine.carryOut, eventList]; split <;> exact hs
  case inputRead => simp only [Machine.carryOut, inputRead]; split <;> exact hs
  case stageRead => simp only [Machine.carryOut, stageRead]; split <;> exact hs
  case timerRead => simp only [Machine.carryOut, timerRead]; split <;> exact hs

theorem perform {payload : List Byte} {s : State} (hs : P s) : P (perform payload s).state := by
  unfold Machine.perform
  repeat' split
  · exact hs
  · exact hs
  · exact hs
  · exact h.carryOut hs

theorem dispatch {r : Request} {s : State} (hs : P s) : P (dispatch r s) := by
  have he : P (execute r s) := h.setLink (h.finish (h.perform hs)) (.inl (Nat.le_refl _))
  unfold Machine.dispatch
  repeat' split
  · exact h.setLink hs (.inl (Nat.le_refl _))
  · exact he
  · exact he

theorem pump {s : State} (n : Nat) (hs : P s) : P (pump n s) := by
  induction n generalizing s with
  | zero => exact h.arbitrate hs
  | succ n ih =>
    unfold Machine.pump
    dsimp only
    split
    · exact ih (h.dispatch (h.setLink (h.arbitrate hs) (.inl (by simp))))
    · exact h.arbitrate hs

/-! ### Commands and steps -/

theorem conclude {f : State → State} {s : State} (hf : P s → P (f s)) (hs : P s) :
    P (conclude f s) := h.pump _ (h.finish (hf hs))

/-- What a command at the part leaves a closed property. -/
theorem run {f : State → State} {s t : State} (hf : P s → P (f s)) (hs : P s)
    (ht : run f s = .next t) : P t := by
  unfold Machine.run at ht
  split at ht
  · cases ht; exact h.conclude hf hs
  · cases ht; exact hs

theorem hostRequest {seq : Byte} {payload : List Byte} {s t : State} (hs : P s)
    (ht : hostRequest seq payload s = .next t) : P t :=
  h.run (fun hs => h.frameArrives hs) hs ht

theorem pinRecorded {s : State} {p : Pin} {l : Bool} (hs : P s) : P (pinRecorded p l s) := by
  unfold Machine.pinRecorded
  repeat' split
  · exact h.setPinLine hs
  · exact h.setLink hs (.inl (Nat.le_refl _))
  · exact h.outside hs rfl rfl rfl rfl rfl rfl rfl

theorem pinChanges {s : State} {p : Pin} {l : Bool} (hs : P s) : P (pinChanges p l s) := by
  unfold Machine.pinChanges conditionPin
  repeat' split
  · exact h.setPinLine hs
  · exact h.setPinLine hs
  · exact h.edge hs
  · exact h.setPinLine hs
  · exact h.rxdChanges hs
  · exact h.outside hs rfl rfl rfl rfl rfl rfl rfl

/-- Every command keeps a closed property. -/
theorem exec {c : Instr} {s t : State} (hs : P s) (ht : exec c s = .next t) : P t := by
  cases c
  case standbyPowerOn =>
    cases ht
    unfold powerArrives
    split
    · exact h.outside hs rfl rfl rfl rfl rfl rfl rfl
    · exact h.outside hs rfl rfl rfl rfl rfl rfl rfl
    all_goals exact h.cold hs
  case resetNAssert =>
    cases ht
    unfold resetAsserted
    split
    · exact h.outside hs rfl rfl rfl rfl rfl rfl rfl
    · exact h.outside hs rfl rfl rfl rfl rfl rfl rfl
    · exact h.inside hs rfl rfl rfl rfl rfl rfl (List.Subset.refl _) (.inr (by simp))
  case resetNRelease =>
    cases ht
    unfold resetReleased
    split
    · exact h.outside hs rfl rfl rfl rfl rfl rfl rfl
    · exact h.cold hs
    · exact hs
  case pinLevelChange p l =>
    cases ht
    split
    · exact h.conclude (fun hs => h.pinChanges hs) hs
    · exact h.pinRecorded hs
  case geiEdge | alertEdge | wakeLineRise | wakeLineFall | buttonPress | buttonRelease | insertion
      | removal | rdyAssert | rdyRelease | pgoodAssert | pgLost | maingoodAssert | maingoodRelease
      | thermAssert | thermRelease => exact h.run (fun hs => h.lineTakes hs) hs ht
  case slpreqRise | hbeatRise | actRise => exact h.run (fun hs => h.edge hs) hs ht
  case powerupLimitExpiry => exact h.run (fun hs => h.powerUpRunsOut hs) hs ht
  case resetHoldEnd => exact h.run (fun hs => h.resetHoldRunsOut hs) hs ht
  case resettingEnd => exact h.run (fun hs => h.resettingRunsOut hs) hs ht
  case stopLimitExpiry => exact h.run (fun hs => h.stopRunsOut hs) hs ht
  case sleepEntryLimitExpiry => exact h.run (fun hs => h.sleepEntryRunsOut hs) hs ht
  case wakingPowerupLimitExpiry => exact h.run (fun hs => h.wakingPowerUpRunsOut hs) hs ht
  case wakeLimitExpiry => exact h.run (fun hs => h.wakeRunsOut hs) hs ht
  case holdWaitExpiry => exact h.run (fun hs => h.holdWaitRunsOut hs) hs ht
  case verdictExpiry => exact h.run (fun hs => h.verdictRunsOut hs) hs ht
  case idleExpiry => exact h.run (fun hs => h.idleRunsOut hs) hs ht
  case heartbeatExpiry => exact h.run (fun hs => h.heartbeatRunsOut hs) hs ht
  case buttonHoldExpiry => exact h.run (fun hs => h.holdRunsOut hs) hs ht
  case staggerExpiry =>
    refine h.run (fun hs => ?_) hs ht
    unfold staggerRunsOut
    exact h.staging hs rfl rfl rfl (.inl rfl)
  case offTimeElapsed => exact h.run (fun hs => h.headOffTimeElapses hs) hs ht
  case settleExpiry => exact h.run (fun hs => h.settleRunsOut hs) hs ht
  case escalationExpiry => exact h.run (fun hs => h.escalationRunsOut hs) hs ht
  case coolExpiry => exact h.run (fun hs => h.coolRunsOut hs) hs ht
  case timerExpiry => exact h.run (fun hs => h.timerRunsOut hs) hs ht
  case offerTimeout => exact h.run (fun hs => h.offerRunsOut hs) hs ht
  case serviceExpiry => exact h.run (fun hs => h.serviceRunsOut hs) hs ht
  case rxFrame => exact h.run (fun hs => h.frameArrives hs) hs ht
  case rxLenTooLong =>
    refine h.run (fun hs => ?_) hs ht
    unfold lenTooLong
    split
    · exact hs
    · exact h.discardFrame hs
  case rxByte =>
    refine h.run (fun hs => ?_) hs ht
    unfold byteArrives
    split
    · exact hs
    · exact h.takeByte hs
  case gapTimeout =>
    refine h.run (fun hs => ?_) hs ht
    unfold gapRunsOut
    split
    · exact h.discardFrame hs
    · exact hs
  case breakDetect =>
    refine h.run (fun hs => ?_) hs ht
    unfold breakRecognised
    exact h.setLink hs (.inl (Nat.le_refl _))
  case linkReset => exact h.run (fun hs => h.resetLink hs) hs ht
  case txFrameEnd => exact h.run (fun hs => h.frameSent hs) hs ht
  all_goals exact h.hostRequest hs ht

theorem carryOutDue (n : Nat) {s t : State} (hs : P s) (ht : carryOutDue n s = .next t) : P t := by
  induction n generalizing s with
  | zero => cases ht; exact hs
  | succ n ih =>
    unfold Machine.carryOutDue at ht
    split at ht
    · cases ht; exact hs
    · rename_i c _
      have hd : P (s.drawn s.due.length).2 := by
        unfold State.drawn
        split
        · exact hs
        · exact h.outside hs rfl rfl rfl rfl rfl rfl rfl
      split at ht
      · rename_i u hu; exact ih (h.exec hd hu) ht
      · cases ht
      · cases ht

/-- Every step keeps a closed property that does not depend on the waiting commands. -/
theorem step (hq : ∀ {s : State} {rest : List Instr}, P s → P { s with pending := rest })
    {s t : State} (hs : P s) (ht : step s = .next t) : P t := by
  unfold Machine.step at ht
  split at ht
  · rename_i c rest _
    exact h.exec (hq (rest := rest) hs) ht
  · unfold tick at ht
    split at ht
    · exact h.carryOutDue _ (h.counted hs) ht
    · cases ht; exact hs

end Closed

end Sys2Proof.Machine
end

