-- ==== Sys2Proof/Laws/Relink.lean ====
section
/-! SUPPORT. No operation of the blocks reads the Control Link, and the requests read its greeted flag, its
restart-pending mark and its two counts alone: each does the same whatever else the link holds. One lemma per
operation, that it commutes with a change of the link; at the end the same of every request. -/

namespace Sys2Proof.Machine

/-! ### Updates and accessors -/

section
variable (s : State) (x : Link)
@[simp] theorem setSlot_relink (i : SlotId) (y : Slot) :
    (s.setLink x).setSlot i y = (s.setSlot i y).setLink x := rfl
@[simp] theorem setEntry_relink (e : EntryId) (y : Entry) :
    (s.setLink x).setEntry e y = (s.setEntry e y).setLink x := rfl
@[simp] theorem setStaging_relink (y : Staging) :
    (s.setLink x).setStaging y = (s.setStaging y).setLink x := rfl
@[simp] theorem setBoard_relink (y : BoardLines) :
    (s.setLink x).setBoard y = (s.setBoard y).setLink x := rfl
@[simp] theorem setWakes_relink (y : List WakeRequest) :
    (s.setLink x).setWakes y = (s.setWakes y).setLink x := rfl
@[simp] theorem setTimer_relink (t : TimerId) (y : GeneralTimer) :
    (s.setLink x).setTimer t y = (s.setTimer t y).setLink x := rfl
@[simp] theorem setChannel_relink (c : ChannelId) (y : Channel) :
    (s.setLink x).setChannel c y = (s.setChannel c y).setLink x := by cases c <;> rfl
@[simp] theorem relink_channel (c : ChannelId) : (s.setLink x).channel c = s.channel c :=
  by cases c <;> rfl
@[simp] theorem replaceEntry_relink (e : EntryId) (y : Entry) :
    replaceEntry e y (s.setLink x) = (replaceEntry e y s).setLink x := rfl
@[simp] theorem sendWakes_relink (w : SlotSet) :
    sendWakes w (s.setLink x) = (sendWakes w s).setLink x := rfl
@[simp] theorem dropPending_relink (e : EntryId) :
    dropPending e (s.setLink x) = (dropPending e s).setLink x := rfl
@[simp] theorem unlist_relink (i : SlotId) : unlist i (s.setLink x) = (unlist i s).setLink x := rfl
@[simp] theorem relink_inFlight (e : EntryId) : (s.setLink x).inFlight e = s.inFlight e := rfl
@[simp] theorem relink_pendingIn (c : ChannelId) (e : EntryId) :
    (s.setLink x).pendingIn c e = s.pendingIn c e := by cases c <;> rfl
@[simp] theorem relink_itemOf : (s.setLink x).itemOf = s.itemOf := rfl
@[simp] theorem relink_levelActive (e : EntryId) : (s.setLink x).levelActive e = s.levelActive e :=
  rfl
@[simp] theorem relink_belongsTo (c : ChannelId) : (s.setLink x).belongsTo c = s.belongsTo c := rfl
@[simp] theorem relink_autoClaimable (i : SlotId) :
    (s.setLink x).autoClaimable i = s.autoClaimable i := rfl
@[simp] theorem relink_listed (i : SlotId) : (s.setLink x).listed i = s.listed i := rfl
@[simp] theorem relink_eligible (n : Nat) : (s.setLink x).eligible n = s.eligible n := rfl
@[simp] theorem relink_nextLevel : (s.setLink x).nextLevel = s.nextLevel := rfl
@[simp] theorem relink_lifeOf (i : SlotId) : (s.setLink x).lifeOf i = s.lifeOf i := rfl
@[simp] theorem relink_entry (e : EntryId) : (s.setLink x).entry e = s.entry e := rfl
@[simp] theorem relink_slot (i : SlotId) : (s.setLink x).slot i = s.slot i := rfl
@[simp] theorem relink_lineSet (i : SlotId) : (s.setLink x).lineSet i = s.lineSet i := rfl
@[simp] theorem relink_timer (t : TimerId) : (s.setLink x).timer t = s.timer t := rfl

end

/-- A run of steps each of which commutes with a change of the link. -/
theorem foldl_relink {α : Type} {f : State → α → State}
    (h : ∀ s x a, f (s.setLink x) a = (f s a).setLink x) (l : List α) (s : State) (x : Link) :
    l.foldl f (s.setLink x) = (l.foldl f s).setLink x := by
  induction l generalizing s with
  | nil => rfl
  | cons a l ih => simp [h, ih]

/-! ### The operations of the blocks -/

@[simp] theorem compose_relink (c : ChannelId) (s : State) (x : Link) :
    compose c (s.setLink x) = (compose c s).setLink x := by
  simp only [compose, relink_channel]
  split <;> simp

@[simp] theorem joinTail_relink (c : ChannelId) (e : EntryId) (s : State) (x : Link) :
    joinTail c e (s.setLink x) = (joinTail c e s).setLink x := by
  simp [joinTail]

@[simp] theorem joinIfUnplaced_relink (e : EntryId) (s : State) (x : Link) :
    joinIfUnplaced e (s.setLink x) = (joinIfUnplaced e s).setLink x := by
  simp only [joinIfUnplaced]
  simp
  repeat' split
  all_goals simp_all

@[simp] theorem occur_relink (e : EntryId) (d : Option Half) (s : State) (x : Link) :
    occur e d (s.setLink x) = (occur e d s).setLink x := by
  simp only [occur]
  simp
  split <;> simp_all

@[simp] theorem clearEntry_relink (e : EntryId) (s : State) (x : Link) :
    clearEntry e (s.setLink x) = (clearEntry e s).setLink x := by
  simp only [clearEntry]
  simp
  split <;> simp_all

@[simp] theorem replace_relink (e : EntryId) (s : State) (x : Link) :
    replace e (s.setLink x) = (replace e s).setLink x := by
  simp only [replace]
  simp
  repeat' split
  all_goals simp_all

@[simp] theorem reconfigure_relink (e : EntryId) (n : Entry) (s : State) (x : Link) :
    reconfigure e n (s.setLink x) = (reconfigure e n s).setLink x := by
  simp only [reconfigure]
  simp
  split <;> simp_all

@[simp] theorem enter_relink (i : SlotId) (t : LifeState) (c : Cause) (p : Option StepTimer)
    (s : State) (x : Link) :
    enter i t c p (s.setLink x) = (enter i t c p s).setLink x := by
  unfold enter
  split <;> simp

@[simp] theorem enqueue_relink (i : SlotId) (o : QueueOrigin) (s : State) (x : Link) :
    enqueue i o (s.setLink x) = (enqueue i o s).setLink x := by
  simp [enqueue]

@[simp] theorem endWaking_relink (i : SlotId) (s : State) (x : Link) :
    endWaking i (s.setLink x) = (endWaking i s).setLink x := by
  simp [endWaking]

@[simp] theorem secondStepOfWaking_relink (i : SlotId) (s : State) (x : Link) :
    secondStepOfWaking i (s.setLink x) = (secondStepOfWaking i s).setLink x := by
  simp only [secondStepOfWaking]
  simp
  split <;> simp_all

@[simp] theorem beginWaking_relink (i : SlotId) (c : Cause) (s : State) (x : Link) :
    beginWaking i c (s.setLink x) = (beginWaking i c s).setLink x := by
  simp only [beginWaking]
  simp
  split <;> simp_all

@[simp] theorem readyInEntering_relink (i : SlotId) (s : State) (x : Link) :
    readyInEntering i (s.setLink x) = (readyInEntering i s).setLink x := by
  simp only [readyInEntering, relink_slot]
  split <;> simp

@[simp] theorem beginEntering_relink (i : SlotId) (c : Cause) (s : State) (x : Link) :
    beginEntering i c (s.setLink x) = (beginEntering i c s).setLink x := by
  simp only [beginEntering]
  simp
  split <;> simp_all

@[simp] theorem endStopping_relink (i : SlotId) (s : State) (x : Link) :
    endStopping i (s.setLink x) = (endStopping i s).setLink x := by
  simp [endStopping]

@[simp] theorem beginStopping_relink (i : SlotId) (c : Cause) (s : State) (x : Link) :
    beginStopping i c (s.setLink x) = (beginStopping i c s).setLink x := by
  simp only [beginStopping]
  repeat' split
  all_goals simp_all

@[simp] theorem beginResetting_relink (i : SlotId) (s : State) (x : Link) :
    beginResetting i (s.setLink x) = (beginResetting i s).setLink x := by
  simp [beginResetting]

@[simp] theorem beginSleepWait_relink (i : SlotId) (o : SleepOrigin) (s : State) (x : Link) :
    beginSleepWait i o (s.setLink x) = (beginSleepWait i o s).setLink x := by
  simp only [beginSleepWait]
  simp
  repeat' split
  all_goals simp_all

@[simp] theorem requestSleep_relink (i : SlotId) (o : SleepOrigin) (s : State) (x : Link) :
    requestSleep i o (s.setLink x) = (requestSleep i o s).setLink x := by
  simp only [requestSleep]
  simp
  split <;> simp_all

@[simp] theorem wakeFromOff_relink (i : SlotId) (o : WakeOrigin) (s : State) (x : Link) :
    wakeFromOff i o (s.setLink x) = (wakeFromOff i o s).setLink x := by
  simp only [wakeFromOff]
  simp
  split <;> simp_all

@[simp] theorem wake_relink (i : SlotId) (o : WakeOrigin) (s : State) (x : Link) :
    wake i o (s.setLink x) = (wake i o s).setLink x := by
  simp only [wake]
  simp
  repeat' split
  all_goals simp_all

@[simp] theorem applyVerdict_relink (i : SlotId) (v : Verdict) (s : State) (x : Link) :
    applyVerdict i v (s.setLink x) = (applyVerdict i v s).setLink x := by
  unfold applyVerdict
  split <;> simp

@[simp] theorem endNotice_relink (c : ChannelId) (t : ChannelState) (s : State) (x : Link) :
    endNotice c t (s.setLink x) = (endNotice c t s).setLink x := by
  have hf : ∀ (s : State) (x : Link) (e : EntryId),
      (fun s e => joinTail (otherChannel c) e s) (s.setLink x) e =
    ((fun s e => joinTail (otherChannel c) e s) s e).setLink x := fun s x e => joinTail_relink _ e s x
  simp only [endNotice, returnEntries, relink_channel, setChannel_relink, relink_belongsTo]
  rw [foldl_relink hf]
  simp

@[simp] theorem settleNotice_relink (c : ChannelId) (s : State) (x : Link) :
    settleNotice c (s.setLink x) = (settleNotice c s).setLink x := by simp [settleNotice]

theorem shedSlot_relink (s : State) (x : Link) (i : SlotId) :
    shedSlot (s.setLink x) i = (shedSlot s i).setLink x := by
  simp only [shedSlot, State.setLink_staging, relink_slot, setStaging_relink]
  split <;> simp

@[simp] theorem escalate_relink (s : State) (x : Link) :
    escalate (s.setLink x) = (escalate s).setLink x := by
  simp only [escalate, relink_nextLevel]
  split
  · rfl
  · simp only [relink_eligible, State.setLink_staging, setStaging_relink,
      foldl_relink shedSlot_relink]

/-! ### Answers -/

/-- What a request reads of the link: the greeted flag, the restart-pending mark and the two counts. -/
structure LinkAlike (x l : Link) : Prop where
  greeted : x.greeted = l.greeted
  mark : x.restartPending = l.restartPending
  discards : x.discardCount = l.discardCount
  duplicates : x.duplicateCount = l.duplicateCount

/-- An answer given with another link, which takes over the flag and the mark that the request sets. -/
def Answered.relinked (d : Answered) (x : Link) : Answered where
  state := d.state.setLink { x with
    greeted := d.state.link.greeted
    restartPending := d.state.link.restartPending }
  reply := d.reply

theorem answer_relink {r : Result} {s t : State} {x : Link}
    (h : LinkAlike x s.link) (ht : t.link = s.link) :
    answer r (t.setLink x) = (answer r t).relinked x := by
  simp only [answer, Answered.relinked, ht, ← h.greeted, ← h.mark]

theorem answerWith_relink {r : Result} {v : List Byte} {s t : State} {x : Link}
    (h : LinkAlike x s.link) (ht : t.link = s.link) :
    answerWith r v (t.setLink x) = (answerWith r v t).relinked x := by
  simp only [answerWith, Answered.relinked, ht, ← h.greeted, ← h.mark]

theorem onSlot_relink {args : List Byte} {s : State} {x : Link} {f : SlotId → State → Answered}
    (h : LinkAlike x s.link)
    (hf : ∀ i, f i (s.setLink x) = (f i s).relinked x) :
    onSlot args (s.setLink x) f = (onSlot args s f).relinked x := by
  unfold onSlot
  split
  · split
    · exact hf _
    · exact answer_relink h rfl
  · exact answer_relink h rfl

theorem onSlotWith_relink {α : Type} {field : Byte → Option α} {args : List Byte} {s : State} {x : Link}
    {f : SlotId → α → State → Answered} (h : LinkAlike x s.link)
    (hf : ∀ i v, f i v (s.setLink x) = (f i v s).relinked x) :
    onSlotWith field args (s.setLink x) f = (onSlotWith field args s f).relinked x := by
  unfold onSlotWith
  split
  · split
    · exact hf _ _
    · exact answer_relink h rfl
  · exact answer_relink h rfl

theorem carriedOut_relink {i : SlotId} {r : Result} {s t : State} {x : Link} (h : LinkAlike x s.link)
    (ht : t.outside = s.outside) : carriedOut i r (t.setLink x) = (carriedOut i r t).relinked x := by
  unfold carriedOut
  rw [unlist_relink]
  exact answer_relink h (by rw [link_of_outside (unlist_outside i t), link_of_outside ht])

/-! ### The requests -/

theorem eventConfig_relink (args : List Byte) {s : State} {x : Link} (h : LinkAlike x s.link) :
    eventConfig args (s.setLink x) = (eventConfig args s).relinked x := by
  unfold eventConfig
  repeat' first | split | dsimp only
  all_goals (try simp only [reconfigure_relink])
  all_goals exact answerWith_relink h (link_of_outside (by simp))

theorem eventRead_relink (args : List Byte) {s : State} {x : Link} (h : LinkAlike x s.link) :
    eventRead args (s.setLink x) = (eventRead args s).relinked x := by
  unfold eventRead
  repeat' first | split | dsimp only
  all_goals exact answerWith_relink h (link_of_outside (by simp))

theorem eventPost_relink (args : List Byte) {s : State} {x : Link} (h : LinkAlike x s.link) :
    eventPost args (s.setLink x) = (eventPost args s).relinked x := by
  unfold eventPost
  repeat' first | split | dsimp only
  all_goals (try simp only [occur_relink])
  all_goals exact answerWith_relink h (link_of_outside (by simp))

theorem inputConfig_relink (args : List Byte) {s : State} {x : Link} (h : LinkAlike x s.link) :
    inputConfig args (s.setLink x) = (inputConfig args s).relinked x := by
  unfold inputConfig
  repeat' first | split | dsimp only
  all_goals (try simp only [setBoard_relink])
  all_goals exact answerWith_relink h rfl

theorem inputRead_relink (args : List Byte) {s : State} {x : Link} (h : LinkAlike x s.link) :
    inputRead args (s.setLink x) = (inputRead args s).relinked x := by
  unfold inputRead
  repeat' first | split | dsimp only
  all_goals exact answerWith_relink h (link_of_outside (by simp))

theorem slotConfig_relink (args : List Byte) {s : State} {x : Link} (h : LinkAlike x s.link) :
    slotConfig args (s.setLink x) = (slotConfig args s).relinked x := by
  unfold slotConfig
  repeat' first | split | dsimp only
  all_goals (try simp only [setSlot_relink])
  all_goals exact answerWith_relink h (link_of_outside (by simp))

theorem stageConfig_relink (args : List Byte) {s : State} {x : Link} (h : LinkAlike x s.link) :
    stageConfig args (s.setLink x) = (stageConfig args s).relinked x := by
  unfold stageConfig
  repeat' first | split | dsimp only
  all_goals (try simp only [setStaging_relink])
  all_goals exact answerWith_relink h (link_of_outside (by simp))

theorem stageRead_relink (args : List Byte) {s : State} {x : Link} (h : LinkAlike x s.link) :
    stageRead args (s.setLink x) = (stageRead args s).relinked x := by
  unfold stageRead
  repeat' first | split | dsimp only
  all_goals exact answerWith_relink h (link_of_outside (by simp))

theorem timerStart_relink (args : List Byte) {s : State} {x : Link} (h : LinkAlike x s.link) :
    timerStart args (s.setLink x) = (timerStart args s).relinked x := by
  unfold timerStart
  repeat' first | split | dsimp only
  all_goals (try simp only [setTimer_relink])
  all_goals exact answerWith_relink h rfl

theorem timerRead_relink (args : List Byte) {s : State} {x : Link} (h : LinkAlike x s.link) :
    timerRead args (s.setLink x) = (timerRead args s).relinked x := by
  unfold timerRead
  repeat' first | split | dsimp only
  all_goals exact answerWith_relink h (link_of_outside (by simp))

theorem channelOpen_relink (args : List Byte) {s : State} {x : Link} (h : LinkAlike x s.link) :
    channelOpen args (s.setLink x) = (channelOpen args s).relinked x := by
  unfold channelOpen
  split
  case h_2 => exact answer_relink h rfl
  split
  case h_2 => exact answer_relink h rfl
  rename_i c _ _ _ _ _
  cases hs : (s.channel c).state <;> simp only [relink_channel, hs]
  all_goals (try simp only [setChannel_relink, compose_relink])
  all_goals exact answerWith_relink h (link_of_outside (by simp))

theorem channelClose_relink (args : List Byte) {s : State} {x : Link} (h : LinkAlike x s.link) :
    channelClose args (s.setLink x) = (channelClose args s).relinked x := by
  unfold channelClose
  split
  case h_2 => exact answer_relink h rfl
  split
  case h_2 => exact answer_relink h rfl
  rename_i c _
  cases hs : (s.channel c).state <;> simp only [relink_channel, hs]
  all_goals (try simp only [endNotice_relink, setChannel_relink])
  all_goals exact answerWith_relink h (link_of_outside (by simp))

theorem acceptNotice_relink (args : List Byte) {s : State} {x : Link} (h : LinkAlike x s.link) :
    acceptNotice args (s.setLink x) = (acceptNotice args s).relinked x := by
  unfold acceptNotice
  split
  case h_2 => exact answer_relink h rfl
  split
  case h_2 => exact answer_relink h rfl
  rename_i c _
  cases hs : (s.channel c).state <;> simp only [relink_channel, hs] <;> (try split_ifs)
  all_goals (try simp only [setChannel_relink])
  all_goals exact answerWith_relink h (link_of_outside (by simp))

theorem settleRequest_relink (args : List Byte) {s : State} {x : Link} (h : LinkAlike x s.link) :
    settleRequest args (s.setLink x) = (settleRequest args s).relinked x := by
  unfold settleRequest
  split
  case h_2 => exact answer_relink h rfl
  split
  case h_2 => exact answer_relink h rfl
  rename_i c _
  cases hs : (s.channel c).state <;> simp only [relink_channel, hs] <;> (try split_ifs)
  all_goals (try simp only [settleNotice_relink])
  all_goals exact answerWith_relink h (link_of_outside (by simp))

theorem timerStop_relink (args : List Byte) {s : State} {x : Link} (h : LinkAlike x s.link) :
    timerStop args (s.setLink x) = (timerStop args s).relinked x := by
  unfold timerStop
  split
  case h_2 => exact answer_relink h rfl
  split
  case h_2 => exact answer_relink h rfl
  rename_i t _
  cases hs : (s.timer t).state <;> simp only [relink_timer, hs]
  all_goals (try simp only [setTimer_relink])
  all_goals exact answerWith_relink h rfl

theorem eventClear_relink (args : List Byte) {s : State} {x : Link} (h : LinkAlike x s.link) :
    eventClear args (s.setLink x) = (eventClear args s).relinked x := by
  unfold eventClear
  split
  case isFalse => exact answer_relink h rfl
  split
  case h_2 => exact answer_relink h rfl
  rename_i set _
  have hf : ∀ (s : State) (x : Link) (e : EntryId), (fun s e => clearEntry e s) (s.setLink x) e =
    ((fun s e => clearEntry e s) s e).setLink x := fun s x e => clearEntry_relink e s x
  simp only [foldl_relink (f := fun s e => clearEntry e s) hf]
  have := foldl_outside (fun s e => clearEntry_outside e s)
  exact answerWith_relink (v := entrySetBytes (List.filter s.levelActive (entriesOf set))) h
    (link_of_outside (this _ _))

theorem insertByTime_relink (s : State) (x : Link) (e : EntryId) (l : List EntryId) :
    insertByTime (s.setLink x) e l = insertByTime s e l := by
  induction l with
  | nil => rfl
  | cons a l ih =>
    simp only [insertByTime, ih]
    rfl

theorem latchedByTime_relink (s : State) (x : Link) :
    (s.setLink x).latchedByTime = s.latchedByTime := by
  simp only [State.latchedByTime, State.byTime, insertByTime_relink, relink_entry]

theorem eventList_relink (args : List Byte) {s : State} {x : Link} (h : LinkAlike x s.link) :
    eventList args (s.setLink x) = (eventList args s).relinked x := by
  unfold eventList
  split
  · dsimp only
    rw [latchedByTime_relink]
    exact answerWith_relink h rfl
  · exact answer_relink h rfl

theorem shedConfig_relink (args : List Byte) {s : State} {x : Link} (h : LinkAlike x s.link) :
    shedConfig args (s.setLink x) = (shedConfig args s).relinked x := by
  unfold shedConfig
  split
  case h_2 => exact answer_relink h rfl
  split
  case h_2 => exact answer_relink h rfl
  simp only [State.setLink_staging, setStaging_relink]
  rename_i enable interval cool _ _ _
  cases enable
  · exact answer_relink h rfl
  · simp only [Bool.true_eq_false, if_false]
    have key : ∀ t : State, t.link = s.link →
        (if ((t.setLink x).hot && (t.setLink x).railGood && t.staging.escalationTimer.isNone) = true
          then answer .done (escalate (t.setLink x)) else answer .done (t.setLink x)) =
        (if (t.hot && t.railGood && t.staging.escalationTimer.isNone) = true
          then answer .done (escalate t) else answer .done t).relinked x := by
      intro t ht
      show (if (t.hot && t.railGood && t.staging.escalationTimer.isNone) = true then _ else _) = _
      split
      · rw [escalate_relink]
        exact answer_relink h (by rw [link_of_outside (escalate_outside t), ht])
      · exact answer_relink h ht
    exact key _ rfl

theorem slotStop_relink (args : List Byte) {s : State} {x : Link} (h : LinkAlike x s.link) :
    slotStop args (s.setLink x) = (slotStop args s).relinked x := by
  refine onSlot_relink h fun i => ?_
  cases hl : s.lifeOf i <;> simp only [relink_lifeOf, hl]
  all_goals (try simp only [beginStopping_relink, enter_relink])
  all_goals first
    | exact carriedOut_relink h (by simp)
    | exact answerWith_relink h (link_of_outside (by simp))

theorem slotCut_relink (args : List Byte) {s : State} {x : Link} (h : LinkAlike x s.link) :
    slotCut args (s.setLink x) = (slotCut args s).relinked x := by
  refine onSlot_relink h fun i => ?_
  cases hl : s.lifeOf i <;> simp only [relink_lifeOf, hl]
  all_goals (try simp only [enter_relink])
  all_goals first
    | exact carriedOut_relink h (by simp)
    | exact answerWith_relink h (link_of_outside (by simp))

theorem slotReset_relink (args : List Byte) {s : State} {x : Link} (h : LinkAlike x s.link) :
    slotReset args (s.setLink x) = (slotReset args s).relinked x := by
  refine onSlot_relink h fun i => ?_
  cases hl : s.lifeOf i <;> simp only [relink_lifeOf, hl]
  all_goals (try simp only [beginResetting_relink])
  all_goals first
    | exact carriedOut_relink h (by simp)
    | exact answerWith_relink h (link_of_outside (by simp))

theorem slotFaultClear_relink (args : List Byte) {s : State} {x : Link} (h : LinkAlike x s.link) :
    slotFaultClear args (s.setLink x) = (slotFaultClear args s).relinked x := by
  refine onSlot_relink h fun i => ?_
  cases hl : s.lifeOf i <;> simp only [relink_lifeOf, hl]
  all_goals (try simp only [enter_relink])
  all_goals first
    | exact carriedOut_relink h (by simp)
    | exact answerWith_relink h (link_of_outside (by simp))

theorem slotWake_relink (args : List Byte) {s : State} {x : Link} (h : LinkAlike x s.link) :
    slotWake args (s.setLink x) = (slotWake args s).relinked x := by
  refine onSlot_relink h fun i => ?_
  cases hl : s.lifeOf i <;> simp only [relink_lifeOf, hl]
  all_goals (try simp only [wake_relink])
  all_goals first
    | exact carriedOut_relink h (by simp)
    | exact answerWith_relink h (link_of_outside (by simp))

theorem slotOn_relink (args : List Byte) {s : State} {x : Link} (h : LinkAlike x s.link) :
    slotOn args (s.setLink x) = (slotOn args s).relinked x := by
  refine onSlot_relink h fun i => ?_
  cases hl : s.lifeOf i <;> simp only [relink_lifeOf, hl]
  case off =>
    show (if s.isPresent i = false then _ else if s.railGood = false then _ else _) = _
    split_ifs
    · exact answer_relink h rfl
    · exact answer_relink h rfl
    · simp only [unlist_relink, setSlot_relink, relink_slot, enqueue_relink]
      exact answer_relink h (link_of_outside (by simp))
  all_goals first
    | exact carriedOut_relink h (by simp)
    | exact answerWith_relink h (link_of_outside (by simp))

theorem slotHold_relink (args : List Byte) {s : State} {x : Link} (h : LinkAlike x s.link) :
    slotHold args (s.setLink x) = (slotHold args s).relinked x := by
  refine onSlot_relink h fun i => ?_
  simp only [relink_slot]
  by_cases hc : (s.slot i).hostHolds < 15 <;> simp only [hc, if_true, if_false]
  all_goals (try simp only [setSlot_relink])
  all_goals exact answerWith_relink h (link_of_outside (by simp))

theorem slotUnhold_relink (args : List Byte) {s : State} {x : Link} (h : LinkAlike x s.link) :
    slotUnhold args (s.setLink x) = (slotUnhold args s).relinked x := by
  refine onSlot_relink h fun i => ?_
  simp only [relink_slot]
  by_cases hc : 0 < (s.slot i).hostHolds <;> simp only [hc, if_true, if_false]
  all_goals (try simp only [setSlot_relink])
  all_goals exact answerWith_relink h (link_of_outside (by simp))

theorem slotRead_relink (args : List Byte) {s : State} {x : Link} (h : LinkAlike x s.link) :
    slotRead args (s.setLink x) = (slotRead args s).relinked x := by
  refine onSlot_relink h fun i => ?_
  all_goals exact answerWith_relink h (link_of_outside (by simp))

theorem slotKick_relink (args : List Byte) {s : State} {x : Link} (h : LinkAlike x s.link) :
    slotKick args (s.setLink x) = (slotKick args s).relinked x := by
  refine onSlot_relink h fun i => ?_
  simp only [relink_slot]
  by_cases hc : (s.slot i).state = .running <;> simp only [hc, if_true, if_false]
  by_cases hi : (s.slot i).config.supervisionInterval = 0 <;> simp only [hi, if_true, if_false]
  all_goals (try simp only [setSlot_relink])
  all_goals exact answerWith_relink h (link_of_outside (by simp))

theorem slotSleep_relink (args : List Byte) {s : State} {x : Link} (h : LinkAlike x s.link) :
    slotSleep args (s.setLink x) = (slotSleep args s).relinked x := by
  refine onSlotWith_relink h fun i v => ?_
  cases hl : s.lifeOf i <;> simp only [relink_lifeOf, hl] <;> (try split_ifs)
  all_goals (try simp only [beginEntering_relink, requestSleep_relink])
  all_goals first
    | exact carriedOut_relink h (by simp)
    | exact answerWith_relink h (link_of_outside (by simp))

theorem slotVerdict_relink (args : List Byte) {s : State} {x : Link} (h : LinkAlike x s.link) :
    slotVerdict args (s.setLink x) = (slotVerdict args s).relinked x := by
  refine onSlotWith_relink h fun i v => ?_
  simp only [relink_slot]
  by_cases hc : (s.slot i).awaitsVerdict = true <;>
    simp only [hc, if_true, if_false, Bool.false_eq_true]
  all_goals (try simp only [applyVerdict_relink])
  all_goals first
    | exact carriedOut_relink h (by simp)
    | exact answerWith_relink h (link_of_outside (by simp))

theorem slotRecoveryClear_relink (args : List Byte) {s : State} {x : Link} (h : LinkAlike x s.link) :
    slotRecoveryClear args (s.setLink x) = (slotRecoveryClear args s).relinked x := by
  refine onSlotWith_relink h fun i v => ?_
  cases v
  all_goals (try simp only [setSlot_relink])
  all_goals exact answerWith_relink h (link_of_outside (by simp))

theorem status_relink (args : List Byte) {s : State} {x : Link} (h : LinkAlike x s.link) :
    status args (s.setLink x) = (status args s).relinked x := by
  have hr : (s.setLink x).statusReport = s.statusReport := by
    simp only [State.statusReport, State.setLink_link, h.discards, h.duplicates]
    rfl
  unfold status
  split
  · rw [hr]; exact answerWith_relink h rfl
  · exact answer_relink h rfl

theorem hello_relink (args : List Byte) {s : State} {x : Link} (h : LinkAlike x s.link) :
    hello args (s.setLink x) = (hello args s).relinked x := by
  unfold hello
  split
  · simp only [answerWith, Answered.relinked, State.setLink_link, h.greeted, ← h.mark]
    rfl
  · exact answer_relink h rfl

theorem restart_relink (args : List Byte) {s : State} {x : Link} (h : LinkAlike x s.link) :
    restart args (s.setLink x) = (restart args s).relinked x := by
  unfold restart
  split
  · simp only [answer, Answered.relinked, State.setLink_link, ← h.greeted]
    rfl
  · exact answer_relink h rfl

/-- A request does and answers the same whatever the link holds besides the flag, the mark and the counts. -/
theorem carryOut_relink (c : ReqCode) (args : List Byte) {s : State} {x : Link}
    (h : LinkAlike x s.link) :
    carryOut c args (s.setLink x) = (carryOut c args s).relinked x := by
  cases c
  case hello => exact hello_relink args h
  case status => exact status_relink args h
  case restart => exact restart_relink args h
  case eventConfig => exact eventConfig_relink args h
  case eventRead => exact eventRead_relink args h
  case eventList => exact eventList_relink args h
  case eventClear => exact eventClear_relink args h
  case eventPost => exact eventPost_relink args h
  case inputConfig => exact inputConfig_relink args h
  case inputRead => exact inputRead_relink args h
  case channelOpen => exact channelOpen_relink args h
  case channelClose => exact channelClose_relink args h
  case accept => exact acceptNotice_relink args h
  case settle => exact settleRequest_relink args h
  case slotConfig => exact slotConfig_relink args h
  case slotRead => exact slotRead_relink args h
  case slotOn => exact slotOn_relink args h
  case slotStop => exact slotStop_relink args h
  case slotCut => exact slotCut_relink args h
  case slotSleep => exact slotSleep_relink args h
  case slotWake => exact slotWake_relink args h
  case slotReset => exact slotReset_relink args h
  case slotVerdict => exact slotVerdict_relink args h
  case slotHold => exact slotHold_relink args h
  case slotUnhold => exact slotUnhold_relink args h
  case slotKick => exact slotKick_relink args h
  case slotFaultClear => exact slotFaultClear_relink args h
  case slotRecoveryClear => exact slotRecoveryClear_relink args h
  case stageConfig => exact stageConfig_relink args h
  case stageRead => exact stageRead_relink args h
  case shedConfig => exact shedConfig_relink args h
  case timerStart => exact timerStart_relink args h
  case timerStop => exact timerStop_relink args h
  case timerRead => exact timerRead_relink args h

end Sys2Proof.Machine
end

