-- ==== Sys2Proof/WellFormed.lean ====
section
/-! DEFINITION. Which commands are well formed: those a frame of R144 can carry, and for
BAD_CODE_REQUEST those that the row speaks of. Everything else is right by its type. -/

namespace Sys2Proof

/-- A payload that a frame can carry: LEN is at most 120 (R144). -/
def payloadFits (payload : List Byte) : Bool := decide (payload.length ≤ Config.maxPayload)

/-- The bytes behind a request code fit one payload with it (R144). -/
def argsFit (args : List Byte) : Bool := decide (args.length + 1 ≤ Config.maxPayload)

/-- The well-formedness of a command. -/
def Instr.wellFormed : Instr → Bool
  | .hello _ args => argsFit args
  | .badCodeRequest _ payload => payloadFits payload && (requestOf payload).isNone
  | .status _ args => argsFit args
  | .restart _ args => argsFit args
  | .eventConfig _ args => argsFit args
  | .eventRead _ args => argsFit args
  | .eventList _ args => argsFit args
  | .eventClear _ args => argsFit args
  | .eventPost _ args => argsFit args
  | .inputConfig _ args => argsFit args
  | .inputRead _ args => argsFit args
  | .channelOpen _ args => argsFit args
  | .channelClose _ args => argsFit args
  | .accept _ args => argsFit args
  | .settle _ args => argsFit args
  | .slotConfig _ args => argsFit args
  | .slotRead _ args => argsFit args
  | .slotOn _ args => argsFit args
  | .slotStop _ args => argsFit args
  | .slotCut _ args => argsFit args
  | .slotReset _ args => argsFit args
  | .slotFaultClear _ args => argsFit args
  | .slotSleep _ args => argsFit args
  | .slotWake _ args => argsFit args
  | .slotVerdict _ args => argsFit args
  | .slotHold _ args => argsFit args
  | .slotUnhold _ args => argsFit args
  | .slotKick _ args => argsFit args
  | .slotRecoveryClear _ args => argsFit args
  | .stageConfig _ args => argsFit args
  | .stageRead _ args => argsFit args
  | .shedConfig _ args => argsFit args
  | .timerStart _ args => argsFit args
  | .timerStop _ args => argsFit args
  | .timerRead _ args => argsFit args
  | .standbyPowerOn => true
  | .resetNAssert => true
  | .resetNRelease => true
  | .pinLevelChange _ _ => true
  | .geiEdge _ _ => true
  | .alertEdge _ _ => true
  | .wakeLineRise _ => true
  | .slpreqRise _ => true
  | .buttonPress _ => true
  | .buttonRelease _ => true
  | .buttonHoldExpiry _ => true
  | .removal _ => true
  | .insertion _ => true
  | .hbeatRise _ => true
  | .actRise _ => true
  | .pgoodAssert _ => true
  | .pgLost _ => true
  | .rdyAssert _ => true
  | .rdyRelease _ => true
  | .powerupLimitExpiry _ => true
  | .resetHoldEnd _ => true
  | .resettingEnd _ => true
  | .stopLimitExpiry _ => true
  | .sleepEntryLimitExpiry _ => true
  | .wakingPowerupLimitExpiry _ => true
  | .wakeLimitExpiry _ => true
  | .holdWaitExpiry _ => true
  | .verdictExpiry _ => true
  | .idleExpiry _ => true
  | .heartbeatExpiry _ => true
  | .staggerExpiry => true
  | .offTimeElapsed => true
  | .maingoodAssert => true
  | .maingoodRelease => true
  | .settleExpiry => true
  | .thermAssert => true
  | .thermRelease => true
  | .escalationExpiry => true
  | .coolExpiry => true
  | .timerExpiry _ => true
  | .offerTimeout _ => true
  | .serviceExpiry _ => true
  | .rxFrame _ _ payload _ => payloadFits payload
  | .rxLenTooLong => true
  | .gapTimeout => true
  | .breakDetect => true
  | .linkReset => true
  | .txFrameEnd => true
  | .wakeLineFall _ => true
  | .rxByte _ => true

end Sys2Proof
end

