-- ==== Sys2Proof/Tests/Slice0.lean ====
section
/-! SUPPORT. The model's own tests: the well-formedness smoke, one step of each family on small states, and
for each statement with hypotheses the states and operands that meet them (`witness_…`). -/

namespace Sys2Proof.Tests

set_option Elab.async false

open Sys2Proof.Machine

/-! ### Well-formedness and words -/

/-- Requests of every argument length that a payload takes, and of one byte more, for each constructor. -/
def requestsWith (args : List Byte) : List Instr := ReqCode.all.map fun c => requestCommand c 7 args

theorem test_wellFormed_requests_that_fit :
    (requestsWith []).all Instr.wellFormed = true ∧
      (requestsWith (List.replicate 119 0)).all Instr.wellFormed = true := by decide +kernel

theorem test_illFormed_requests_too_long :
    (requestsWith (List.replicate 120 0)).any Instr.wellFormed = false := by decide +kernel

theorem test_wellFormed_payloads_that_fit :
    (Instr.rxFrame 7 1 (List.replicate 120 0) 0).wellFormed = true ∧
      (Instr.badCodeRequest 7 (List.replicate 120 0)).wellFormed = true ∧
      (Instr.badCodeRequest 7 []).wellFormed = true := by decide +kernel

theorem test_illFormed_payloads :
    (Instr.rxFrame 7 1 (List.replicate 121 0) 0).wellFormed = false ∧
      (Instr.badCodeRequest 7 (List.replicate 121 0)).wellFormed = false ∧
      (Instr.badCodeRequest 7 [0x01]).wellFormed = false ∧
      (Instr.badCodeRequest 7 [0x52, 0]).wellFormed = false := by decide +kernel

theorem test_no_word_spells_a_command :
    decodeTableWord 32 0x12345678 = none ∧ State.reset.withFetchWord 32 1 = State.reset := by decide +kernel

/-- The check value of the nine digits, the known answer of this generator. -/
theorem test_crc_of_the_digits :
    crc [0x31, 0x32, 0x33, 0x34, 0x35, 0x36, 0x37, 0x38, 0x39] = 0x29B1 := by decide +kernel

/-! ### States to test on -/

/-- The next state of a command. -/
def after (c : Instr) (s : State) : State :=
  match exec c s with
  | .next t => t
  | .fault _ => s
  | .refused _ => s

/-- The reply that stands on TXD, if one does. -/
def replyOn (s : State) : Option (List Byte) :=
  match s.link.tx with
  | .reply f => some f.payload
  | .idle => none
  | .notice _ _ => none

/-- The part after reset, greeted. -/
def greeted : State := State.reset.setLink { State.reset.link with greeted := true }

/-- Slot 1 in a state, its module present and the main rail good. -/
def inState (x : LifeState) : State :=
  ((greeted.setSlot 0 { greeted.slot 0 with
    state := x, last := some { cause := .host, time := 0 }, offTimer := 500 }).setLineSet 0
      { greeted.lineSet 0 with present := Line.settled true }).setStaging
        { greeted.staging with rail := .good }

/-- Slot 1 in a state with a running step. -/
def inStep (x : LifeState) (kind : StepKind) : State :=
  (inState x).setSlot 0 { (inState x).slot 0 with step := some { kind := kind, left := 5 } }

/-- The input lines of slot 1, changed. -/
def withLines (f : SlotLines → SlotLines) (s : State) : State := s.setLineSet 0 (f (s.lineSet 0))

/-- The record of slot 1, changed. -/
def withSlot (f : Slot → Slot) (s : State) : State := s.setSlot 0 (f (s.slot 0))

/-- The Staging Unit, changed. -/
def withStaging (f : Staging → Staging) (s : State) : State := s.setStaging (f s.staging)

/-- The Control Link, changed. -/
def withLink (f : Link → Link) (s : State) : State := s.setLink (f s.link)

/-- The Priority channel, changed. -/
def withPriority (f : Channel → Channel) (s : State) : State := { s with priority := f s.priority }

/-- The Routine channel, changed. -/
def withRoutine (f : Channel → Channel) (s : State) : State := { s with routine := f s.routine }

/-- Entry 55 (posted event 1) latched, enabled and routed to Priority. -/
def posted : Entry :=
  { enabled := true, trigger := .pulse, route := .priority, wakeSet := 1, holdSet := 1,
    latch := some { count := 1, firstTime := 0, detail := some 5 } }

/-- The Priority channel with a notice of entry 55 outstanding. -/
def outstanding (state : ChannelState) : State :=
  (withPriority (fun ch => { ch with
    state := state, inFlight := [55], items := [{ entry := 55, count := 1, firstTime := 0, detail := some 5 }],
    number := 1, offerTimer := .running 3, serviceTimer := some 3 }) greeted).setEntry 55 posted

/-- Slot 1 waits in SLEEP_WAIT. -/
def waiting (awaited : Bool) (holds : Nat) : State :=
  withSlot (fun x => { x with
    pendingSleep := some { origin := .line, verdictAwaited := awaited }
    verdictTimer := if awaited then some 5 else none
    hostHolds := holds, holds := holds }) (inStep .sleepWait .holdWait)

/-- Every life-cycle state. -/
def lifeStates : List LifeState :=
  [.off, .queued, .powering, .releasing, .running, .resetting, .sleepWait, .entering, .asleep, .waking,
   .stopping, .faulted]

/-- Every channel state. -/
def channelStates : List ChannelState := [.closed, .idle, .offered, .servicing, .stalled]

/-! ### One step of each family -/

theorem test_hello_from_reset :
    replyOn (after (.hello 7 []) State.reset) =
      some [0x00, 0x0A, 0x32, 0x01, 0x00, 0x01, 0, 0, 0, 0, 0, 0, 0, 0, 0, 0] := by decide +kernel

theorem test_request_before_hello : replyOn (after (.status 7 []) State.reset) = some [0x06] := by decide +kernel

theorem test_unknown_code : replyOn (after (.badCodeRequest 7 [0xFF]) State.reset) = some [0x02] := by decide +kernel

theorem test_wrong_length : replyOn (after (.slotOn 7 []) greeted) = some [0x03] := by decide +kernel

theorem test_slot_on_powers_up :
    replyOn (after (.slotOn 7 [1]) (inState .off)) = some [0x01] ∧
      (after (.slotOn 7 [1]) (inState .off)).lifeOf 0 = .powering := by decide +kernel

theorem test_power_good_releases :
    (after (.pgoodAssert 0) (inStep .powering .powerUp)).lifeOf 0 = .releasing := by decide +kernel

theorem test_reset_hold_ends :
    (after (.resetHoldEnd 0) (inStep .releasing .resetHold)).lifeOf 0 = .running := by decide +kernel

theorem test_power_good_lost : (after (.pgLost 0)
    (withLines (fun l => { l with pgood := Line.settled true }) (inState .running))).lifeOf 0 =
      .faulted := by decide +kernel

theorem test_slot_stop : (after (.slotStop 7 [1]) (inState .running)).lifeOf 0 = .stopping := by decide +kernel

theorem test_stop_is_answered : (after (.rdyAssert 0) (inStep .stopping .stop)).lifeOf 0 = .off := by decide +kernel

theorem test_slot_cut : (after (.slotCut 7 [1]) (inState .asleep)).lifeOf 0 = .off := by decide +kernel

theorem test_sleep_request : (after (.slpreqRise 0) (inState .running)).lifeOf 0 = .entering := by decide +kernel

theorem test_denied_sleep :
    (after (.slotVerdict 7 [1, 0]) (waiting true 0)).lifeOf 0 = .running := by decide +kernel

theorem test_granted_sleep :
    (after (.slotVerdict 7 [1, 1]) (waiting true 0)).lifeOf 0 = .entering := by decide +kernel

theorem test_last_unhold_releases_the_sleep :
    replyOn (after (.slotUnhold 7 [1]) (waiting false 1)) = some [0x00] ∧
      (after (.slotUnhold 7 [1]) (waiting false 1)).lifeOf 0 = .entering := by decide +kernel

/-- Slots 1 and 2 wait in SLEEP_WAIT, held by entry 55 alone; slot 1 goes ASLEEP at once, and its transition
entry holds slot 2. -/
def twoWaiting : State :=
  let waits := fun x : Slot => { x with state := .sleepWait, holds := 1,
                                        pendingSleep := some { origin := .line, verdictAwaited := false } }
  let slots := (inState .sleepWait).setSlot 0 (waits ((inState .sleepWait).slot 0))
  let both := slots.setSlot 1 (waits (slots.slot 1))
  withLines (fun l => { l with rdy := Line.settled true })
    ((both.setEntry 55 { posted with holdSet := 3, wakeSet := 0 }).setEntry 36
      { posted with holdSet := 2, wakeSet := 0, route := .none, latch := none })

theorem test_two_sleeps_freed_together_are_both_released :
    let t := after (.eventClear 7 [0, 0x80, 0, 0, 0, 0, 0, 0]) twoWaiting
    twoWaiting.ready 7 ∧ t.lifeOf 0 = .asleep ∧ t.lifeOf 1 = .entering ∧ (t.slot 1).holds = 1 := by
  decide +kernel

theorem test_reply_waits_behind_the_frame_on_txd :
    let t := after (.slotHold 7 [1]) (withLink (fun l => { l with tx := .reply (replyFrame 6 [0]) }) greeted)
    t.link.tx = .reply (replyFrame 6 [0]) ∧ t.link.replyWaiting = some (replyFrame 7 [0]) ∧
      (after .txFrameEnd t).link.tx = .reply (replyFrame 7 [0]) := by decide +kernel

theorem test_wake_from_sleep : (after (.wakeLineRise 0) (inState .asleep)).lifeOf 0 = .waking := by decide +kernel

theorem test_removal : (after (.removal 0) (inState .running)).lifeOf 0 = .off := by decide +kernel

theorem test_button_starts_a_slot : (after (.buttonPress 0) (inState .off)).lifeOf 0 = .powering := by decide +kernel

theorem test_override : ((after (.buttonHoldExpiry 0)
    (withSlot (fun x => { x with buttonHold := some 1 }) (inState .running))).slot 0).override = true := by
  decide +kernel

theorem test_rail_lost : (after .maingoodRelease ((inState .running).setBoard
    { greeted.board with mainGood := Line.settled true })).lifeOf 0 = .off := by decide +kernel

theorem test_posted_event_is_offered :
    (after (.eventPost 7 [1, 0, 5]) (withPriority (fun ch => { ch with state := .idle })
      (greeted.setEntry 55 { posted with latch := none }))).priority.inFlight = [55] := by decide +kernel

theorem test_settled_notice :
    (after (.settle 7 [1, 1]) (outstanding .servicing)).priority.pending = [] ∧
      (after (.settle 7 [1, 1]) (outstanding .servicing)).priority.inFlight = [55] := by decide +kernel

theorem test_timer_expiry :
    ((after (.timerExpiry 0) (greeted.setTimer 0
      { state := .running, mode := .once, interval := 9, remaining := 1 })).entry 51).latched = true := by
  decide +kernel

theorem test_bad_check_is_discarded :
    (after (.rxFrame 7 1 [0x01] 0) State.reset).link.discardCount = 1 := by decide +kernel

theorem test_break_resets_the_link :
    (after .linkReset (withLink (fun l => { l with inBreak := true, rxd := false }) greeted)).link.rxd =
      true := by decide +kernel

theorem test_reset_pin_holds_and_starts :
    (after .resetNAssert greeted).phase = .held .pin ∧
      (after .resetNRelease (after .resetNAssert greeted)).session.reason = .pin := by decide +kernel

/-! ### Witnesses: states and operands that meet the hypotheses of each statement -/

/-- A slot number field names slots 1 and 6 and shuts out 0 and 7. -/
theorem witness_slotNumbers :
    (1 : Byte).toNat = (0 : SlotId).val + 1 ∧ (6 : Byte).toNat = (5 : SlotId).val + 1 ∧
      (0 : Byte).toNat = 0 ∧ 6 < (7 : Byte).toNat := by decide

/-- A ready part with slot 1 in each life-cycle state: the hypotheses of the slot requests' statements. -/
theorem witness_readyInEveryLifeState :
    ∀ x ∈ lifeStates, (inState x).ready 7 ∧ (inState x).lifeOf 0 = x := by decide +kernel

theorem witness_AnEmptyQueueIsOneMillisecond :
    ({ greeted with phase := .held .pin }).phase ≠ .running ∧ greeted.pending = [] ∧
      greeted.phase = .running ∧ greeted.counted.due = [] ∧ (greeted.timer 0).state = .stopped ∧
      (let s := greeted.setTimer 0 { state := .running, mode := .once, interval := 9, remaining := 1 };
        s.pending = [] ∧ s.phase = .running ∧ (s.timer 0).state = .running ∧ (s.timer 0).remaining = 1 ∧
          s.counted.due = [.timerExpiry 0] ∧ (after (.timerExpiry 0) s.counted).due = []) := by
  decide +kernel

theorem witness_PowerAndResetStartThePart :
    ∀ p ∈ [Phase.running, .unpowered false, .unpowered true, .held .power, .held .pin],
      ({ State.reset with phase := p }).phase = p := by decide +kernel

theorem witness_HeldPartTakesNothing :
    ({ State.reset with phase := .unpowered false }).phase ≠ .running ∧
      ({ State.reset with phase := .held .pin }).phase ≠ .running ∧
      Instr.geiEdge 0 true ≠ .standbyPowerOn ∧ Instr.geiEdge 0 true ≠ .resetNAssert ∧
      Instr.geiEdge 0 true ≠ .resetNRelease ∧ (∀ p l, Instr.geiEdge 0 true ≠ .pinLevelChange p l) ∧
      ({ State.reset with phase := .held .pin }).pinLine (.gei 0) = some Line.released :=
  ⟨by decide, by decide, by decide, by decide, by decide, by simp, by decide⟩

/-- A part with four queued requests, a queued slot, a held slot and pending entries, about to take a
command. -/
def busy : State :=
  { withStaging (fun u => { u with startQueue := [{ slot := 0, origin := .host }] })
      (withSlot (fun x => { x with hostHolds := 1, holds := 2 })
        (withPriority (fun ch => { ch with state := .stalled, pending := [55] })
          ((withLink (fun l => { l with queue := List.replicate 4 { seq := 7, payload := [] } })
            (inState .queued)).setEntry 55 posted))) with
    pending := [.staggerExpiry] }

theorem witness_RequestQueueStaysBounded : busy.queueBounded ∧ ∃ t, step busy = .next t :=
  ⟨by decide +kernel, _, rfl⟩

theorem witness_OnePowerUpAtATime : (inState .powering).onePowerUp ∧
    ∃ t, step { inState .powering with pending := [.staggerExpiry] } = .next t :=
  ⟨by decide +kernel, _, rfl⟩

/-- Slot 1 shed to ASLEEP, about to take a command. -/
def shedAsleep : State :=
  { withStaging (fun u => { u with shedList := [{ slot := 0, action := .sleep }], shedLevel := 1 })
      (inState .asleep) with pending := [.staggerExpiry] }

/-- The rail is LOST and settles, about to take a command. -/
def settling : State :=
  { withStaging (fun u => { u with settleTimer := some 1 }) greeted with pending := [.settleExpiry] }

theorem witness_StartQueueHoldsTheQueuedSlots :
    busy.startQueueAgrees ∧ (∃ t, step busy = .next t) ∧
      shedAsleep.startQueueAgrees ∧ shedAsleep.shedListAgrees ∧ (∃ t, step shedAsleep = .next t) ∧
      settling.startQueueAgrees ∧ settling.shedListAgrees ∧ ∃ t, step settling = .next t :=
  ⟨by decide +kernel, ⟨_, rfl⟩, by decide +kernel, by decide +kernel, ⟨_, rfl⟩, by decide +kernel,
    by decide +kernel, _, rfl⟩

theorem witness_HoldCountsStayExact : busy.holdsAgree ∧ ∃ t, step busy = .next t :=
  ⟨by decide +kernel, _, rfl⟩

theorem witness_OverriddenSlotsStayOff :
    let s := { withSlot (fun x => { x with override := true }) (inState .off) with
      pending := [.buttonPress 0] }
    s.overrideHolds ∧ s.startQueueAgrees ∧ ∃ t, step s = .next t :=
  ⟨by decide +kernel, by decide +kernel, _, rfl⟩

theorem witness_ListsHoldTheirEntries :
    busy.placesAgree ∧ (outstanding .servicing).placesAgree ∧ ∃ t, step busy = .next t :=
  ⟨⟨by decide +kernel, fun c => by cases c <;> decide +kernel⟩,
    ⟨by decide +kernel, fun c => by cases c <;> decide +kernel⟩, _, rfl⟩

theorem witness_WhatFollowsAStep :
    (greeted.calm ∧ (arbitrate greeted).takeable = none) ∧
      (let s := withLink (fun l => { l with queue := [{ seq := 7, payload := [] }] }) greeted;
        s.calm ∧ (arbitrate s).takeable = some { seq := 7, payload := [] }) ∧
      (let s := withStaging (fun u => { u with startQueue := [{ slot := 0, origin := .host }] })
          (inState .queued);
        s.wakes = [] ∧ s.staging.restore ≠ .between ∧ s.sleepers = [] ∧
          s.staging.startQueue = { slot := 0, origin := .host } :: [] ∧
          (∀ i : SlotId, s.lifeOf i ≠ .powering ∧ s.lifeOf i ≠ .releasing) ∧
          s.staging.staggerTimer = none ∧
          (s.slot 0).config.offTime * 100 ≤ (s.slot 0).offTimer ∧ s.staging.rail = .good) ∧
      (let s := withStaging (fun u => { u with restore := .between }) greeted;
        s.staging.restore = .between) ∧
      (let s := waiting false 0;
        s.lifeOf 0 = .sleepWait ∧
          (s.slot 0).pendingSleep = some { origin := .line, verdictAwaited := false } ∧
          (s.slot 0).holds = 0 ∧ s.sleepers = [0] ∧ (1 : SlotId) ∉ s.sleepers) ∧
      nextBusiness greeted = none ∧ greeted.staging.startQueue = [] ∧ greeted.sleepers = [] ∧
      (let s := greeted.setWakes [{ slot := 0, origin := .wakeEvent }];
        s.staging.restore ≠ .between ∧
          s.wakes = { slot := 0, origin := .wakeEvent } :: [] ∧ (nextBusiness s).isSome = true) := by decide +kernel

theorem witness_ArbiterSendsRepliesFirst :
    (withLink (fun l => { l with tx := .reply (replyFrame 7 []) }) greeted).link.tx ≠ .idle ∧
      (let s := withLink (fun l => { l with replyWaiting := some (replyFrame 7 []) }) greeted;
        s.link.tx = .idle ∧ s.link.replyWaiting = some (replyFrame 7 [])) ∧
      (let s := withPriority (fun ch => { ch with sendWaiting := true }) greeted;
        s.link.tx = .idle ∧ s.link.replyWaiting = none ∧ s.priority.sendWaiting = true) ∧
      (let s := withRoutine (fun ch => { ch with sendWaiting := true }) greeted;
        s.link.tx = .idle ∧ s.link.replyWaiting = none ∧ s.priority.sendWaiting = false ∧
          s.routine.sendWaiting = true) ∧
      (greeted.link.replyWaiting = none ∧ greeted.priority.sendWaiting = false ∧
        greeted.routine.sendWaiting = false) := by decide +kernel

/-- The part with its receiver in a state. -/
def hearing (r : Receiver) : State := withLink (fun l => { l with receiver := r }) greeted

theorem witness_ReceiverTakesBytes :
    (∀ r ∈ [Receiver.hunt, .headerLen, .headerSeq 1, .headerKind 0 7, .headerKind 120 7, .body 2 7 1 [],
        .body 1 7 1 [], .checkHigh 7 1 [], .checkLow 7 1 [] 0, .checkLow 7 1 (List.replicate 120 0) 0],
      (hearing r).phase = .running ∧ (hearing r).link.inBreak = false ∧ (hearing r).link.receiver = r) ∧
      (withLink (fun l => { l with inBreak := true }) greeted).link.inBreak = true ∧
      (120 : Byte).toNat ≤ 120 ∧ 120 < (121 : Byte).toNat ∧ ([] : List Byte).length + 1 ≠ (2 : Byte).toNat ∧
      ([] : List Byte).length + 1 = (1 : Byte).toNat := by decide +kernel

theorem witness_BytesMakeTheFrame :
    greeted.phase = .running ∧ greeted.calm ∧ greeted.linkFree ∧ ([] : List Byte).length ≤ 120 ∧
      (List.replicate 120 (0 : Byte)).length ≤ 120 := by decide +kernel

theorem witness_FramesAreJudged :
    greeted.phase = .running ∧ greeted.link.inBreak = false ∧ greeted.link.queue.length < 4 ∧
      (withLink (fun l => { l with queue := List.replicate 3 { seq := 7, payload := [] } })
        greeted).link.queue.length < 4 ∧
      4 ≤ busy.link.queue.length ∧ busy.link.inBreak = false ∧
      crc [0, 7, 1] = crc (BitVec.ofNat 8 ([] : List Byte).length :: 7 :: 1 :: []) ∧
      (0 : Half) ≠ crc [0, 7, 1] ∧ (2 : Byte) ≠ 1 ∧ 120 < (List.replicate 121 (0 : Byte)).length := by
  decide +kernel

theorem witness_DuplicatesAreAnsweredFromTheCache :
    (let s := withLink (fun l => { l with cache := some { seq := 7, payload := [0] } }) greeted;
      let t := withLink (fun l => { l with tx := .reply (replyFrame 6 [0]) }) s;
      s.phase = .running ∧ s.calm ∧ s.linkFree ∧ s.link.cache = some { seq := 7, payload := [0] } ∧
        t.linkFree) ∧
      [0x01] = ReqCode.hello.byte :: ([] : List Byte) := by decide +kernel

theorem witness_RequestsAreTestedInOrder :
    State.reset.listening 7 ∧ State.reset.link.greeted = false ∧ greeted.listening 7 ∧
      (∀ c ∈ ReqCode.all, ([0xFF] : List Byte).head? ≠ some c.byte ∧
        ([] : List Byte).head? ≠ some c.byte) ∧
      (∀ c ∈ ReqCode.all, 120 ≠ c.length ∧ (List.replicate (c.length - 1) (0 : Byte)).length + 1 = c.length) ∧
      (List.replicate 119 (0 : Byte)).length + 1 ≤ 120 ∧ ReqCode.status ≠ .hello := by decide +kernel

/-- A notice is on TXD, and another waits behind it. -/
def sending : State :=
  withPriority (fun ch => { ch with sendWaiting := true })
    (withLink (fun l => { l with tx := .notice .routine (replyFrame 6 [0]) }) greeted)

theorem witness_RequestsAreTestedInOrder_dispatch :
    (sending.ready 7 ∧ sending.link.tx ≠ .idle) ∧
      (withLink (fun l => { l with cache := some { seq := 7, payload := [0] } }) busy).link.cache =
        some { seq := 7, payload := [0] } ∧
      busy.freshSeq 7 ∧ busy.link.greeted = true ∧ State.reset.freshSeq 7 ∧
      (let x := withLink (fun l => { l with receiver := .headerLen }) busy;
        x.link.greeted = busy.link.greeted ∧ x.link.restartPending = busy.link.restartPending ∧
          x.link.discardCount = busy.link.discardCount ∧
          x.link.duplicateCount = busy.link.duplicateCount) := by decide +kernel

theorem witness_BreaksResetTheLink :
    greeted.phase = .running ∧ greeted.link.rxd = true ∧
      (let s := withLink (fun l => { l with rxd := false }) greeted;
        s.phase = .running ∧ s.link.rxd = false ∧ s.link.inBreak = false) ∧
      (let s := withLink (fun l => { l with rxd := false, inBreak := true }) greeted;
        s.phase = .running ∧ s.link.rxd = false ∧ s.link.inBreak = true) ∧
      (let s := withLink (fun l => { l with
          restartPending := true, replyWaiting := some (replyFrame 7 [0]) }) greeted;
        s.link.restartPending = true ∧ s.link.replyWaiting.isSome = true) ∧
      (outstanding .offered).priority.state = .offered ∧
      (outstanding .offered).routine.state ≠ .offered := by decide +kernel

theorem witness_FramesOnTxdEnd :
    greeted.ready 7 ∧ greeted.link.tx = .idle ∧
      (let s := withLink (fun l => { l with tx := .reply (replyFrame 7 [0]) }) greeted;
        s.phase = .running ∧ s.link.tx = .reply (replyFrame 7 [0]) ∧ s.link.restartPending = false) ∧
      (let s := withLink (fun l => { l with
          tx := .reply (replyFrame 7 [0]), restartPending := true }) greeted;
        s.phase = .running ∧ s.link.tx = .reply (replyFrame 7 [0]) ∧ s.link.restartPending = true ∧
          s.link.replyWaiting = none) ∧
      (let s := withLink (fun l => { l with tx := .notice .priority (replyFrame 7 [0]) })
          (outstanding .offered);
        s.phase = .running ∧ s.link.tx = .notice .priority (replyFrame 7 [0])) := by decide +kernel

theorem witness_WarmRestartKeepsTheModules :
    busy.holdsAgree ∧ (50 : EntryId).val ≤ 50 ∧ 51 ≤ (51 : EntryId).val := by decide +kernel

theorem witness_HelloGreetsThePart : State.reset.listening 7 ∧ greeted.listening 7 := by decide +kernel

theorem witness_ReadsChangeNothing :
    greeted.ready 7 ∧
      ([((0 : Byte), (1 : Byte)), (0, 8), (59, 1), (52, 8)].all fun p => decide
        (p.1.toNat < 60 ∧ 1 ≤ p.2.toNat ∧ p.2.toNat ≤ 8 ∧ p.1.toNat + p.2.toNat ≤ 60)) = true ∧
      ([((0 : Byte), (0 : Byte)), (0, 9), (60, 1), (53, 8)].all fun p => decide
        (¬ (p.1.toNat < 60 ∧ 1 ≤ p.2.toNat ∧ p.2.toNat ≤ 8 ∧ p.1.toNat + p.2.toNat ≤ 60))) = true :=
  ⟨by decide +kernel, by decide, by decide⟩

theorem witness_OccurrencesLatchAndCount :
    (greeted.entry 55).latch = none ∧
      (∀ n ∈ [(1 : Byte), 254, 255], ((greeted.setEntry 55 { posted with
        latch := some { count := n, firstTime := 0, detail := none } }).entry 55).latch =
          some { count := n, firstTime := 0, detail := none }) ∧ (0 : EntryId) ≠ 55 := by decide +kernel

theorem witness_OccurrencesJoinTheirList :
    (greeted.entry 55).enabled = false ∧
      ((greeted.setEntry 55 { posted with route := .none }).entry 55).route = .none ∧
      (55 : EntryId) ∈ (outstanding .servicing).priority.inFlight ∧
      ((busy.entry 55).route.channel? = some .priority ∧ (55 : EntryId) ∈ (busy.channel .priority).pending) ∧
      ∀ x ∈ channelStates,
        let s := withPriority (fun ch => { ch with state := x }) (greeted.setEntry 55 posted)
        (s.entry 55).enabled = true ∧ (s.entry 55).route.channel? = some .priority ∧
          (55 : EntryId) ∉ s.priority.inFlight ∧ (55 : EntryId) ∉ s.routine.inFlight ∧
          (55 : EntryId) ∉ (s.channel .priority).pending ∧ (s.channel .priority).state = x := by
  decide +kernel

theorem witness_LineEdgesFollowTheTrigger :
    greeted.phase = .running ∧ (greeted.lineSet 0).wake.level = false ∧
      (withLines (fun l => { l with wake := Line.settled true }) greeted).phase = .running ∧
      ((withLines (fun l => { l with wake := Line.settled true }) greeted).lineSet 0).wake.level = true := by
  decide +kernel

theorem witness_RawPinsAreConditioned :
    greeted.phase = .running ∧ greeted.pinLine (.wake 0) = some Line.released ∧
      false = Line.released.level ∧ true ≠ Line.released.level ∧ Line.released.period = none ∧
      greeted.qualifyTime (.wake 0) true ≠ 0 ∧ greeted.pinLine (.gei 11) = some Line.released ∧
      greeted.qualifyTime (.gei 11) true = 0 ∧
      (let x : Line := { pin := true, level := false, period := some 3 };
        (withLines (fun l => { l with wake := x }) greeted).pinLine (.wake 0) = some x ∧
          true ≠ x.level ∧ x.period = some 3) ∧
      lineCommand (.gei 11) true = some (.geiEdge 11 true) ∧
      lineCommand (.wake 0) true = some (.wakeLineRise 0) ∧ lineCommand (.hbeat 0) false = none ∧
      (let x : Line := { pin := true, level := false, period := some 1 };
        (withLines (fun l => { l with wake := x }) greeted).pinLine (.wake 0) = some x ∧
          true ≠ x.level ∧ x.pin = true ∧ x.period = some 1) ∧
      (let x : Line := { pin := false, level := true, period := some 1 };
        (withLines (fun l => { l with slpReq := x }) greeted).pinLine (.slpReq 0) = some x) := by
  decide +kernel

theorem witness_EventConfigChangesInOneStep :
    greeted.ready 7 ∧ (posted.trigger = .pulse ↔ 24 ≤ (55 : EntryId).val) ∧
      ((Entry.coldStart 0).trigger = .pulse ↔ 24 ≤ (0 : EntryId).val) ∧
      (60 ≤ (60 : Byte).toNat ∧ 2 ≤ (2 : Byte).toNat ∧ ((23 : Byte).toNat < 24 ∧ 5 ≤ (5 : Byte).toNat) ∧
        (24 ≤ (24 : Byte).toNat ∧ (4 : Byte).toNat ≠ 5) ∧ 3 ≤ (3 : Byte).toNat ∧ 64 ≤ (64 : Byte).toNat) ∧
      (let s := greeted.setGeiLine 0 (Line.settled true);
        let placed := fun t : Trigger => s.setEntry 0 { s.entry 0 with trigger := t };
        Trigger.high ≠ (s.entry 0).trigger ∧ (placed .high).levelActive 0 = true ∧
          (placed .low).levelActive 0 = false ∧ Trigger.rise = (s.entry 0).trigger) ∧
      (let s := (withPriority (fun ch => { ch with state := .idle }) greeted).setEntry 55 posted;
        ({ posted with latch := (s.entry 55).latch }).latched = true ∧ posted.enabled = true ∧
          (55 : EntryId) ∉ s.priority.inFlight ∧ (55 : EntryId) ∉ s.routine.inFlight ∧
          posted.route.channel? = some .priority ∧ (s.channel .priority).pending = [] ∧
          (s.channel .priority).state = .idle) ∧
      (let s := greeted.setEntry 55 posted;
        (55 : EntryId) ∉ (s.channel .priority).pending ∧ (s.channel .priority).state ≠ .idle) ∧
      (55 : EntryId) ∈ (busy.channel .priority).pending ∧
      (∀ c : ChannelId, ¬ (Entry.coldStart 0).route.channel? = some c) := by
  refine ⟨by decide +kernel, by decide, by decide, by decide, by decide +kernel, by decide +kernel,
    by decide +kernel, by decide +kernel, ?_⟩
  intro c; cases c <;> decide

theorem witness_EventClearClearsWhatItCan :
    greeted.ready 7 ∧ (List.replicate 8 (0 : Byte)).length = 8 ∧
      ((0 : EntryId).val = (0 : GeiLine).val ∧ (11 : EntryId).val = (11 : GeiLine).val ∧
        (12 : EntryId).val = 12 + (0 : SlotId).val ∧ (17 : EntryId).val = 12 + (5 : SlotId).val ∧
        (18 : EntryId).val = 18 + (0 : SlotId).val ∧ (23 : EntryId).val = 18 + (5 : SlotId).val ∧
        24 ≤ (24 : EntryId).val) ∧
      2 ^ 60 ≤ [0x10, 0, 0, 0, 0, 0, 0, (0 : Byte)].foldl (fun n b => n * 256 + b.toNat) 0 ∧
      [0x0F, 0xFF, 0xFF, 0xFF, 0xFF, 0xFF, 0xFF, (0xFF : Byte)].foldl
        (fun n b => n * 256 + b.toNat) 0 < 2 ^ 60 := by decide +kernel

theorem witness_EventPostAndInputConfig :
    greeted.ready 7 ∧ (∀ b ∈ [(1 : Byte), 4], 1 ≤ b.toNat ∧ b.toNat ≤ 4) ∧
      (∀ b ∈ [(0 : Byte), 5], ¬ (1 ≤ b.toNat ∧ b.toNat ≤ 4)) ∧ (11 : Byte).toNat < 12 ∧
      12 ≤ (12 : Byte).toNat := by decide +kernel

theorem witness_CompositionTakesTheFirstEntries :
    (let s := withPriority (fun ch => { ch with state := .idle, pending := [55] })
        (greeted.setEntry 55 posted);
      (s.channel .priority).state = .idle ∧ (s.channel .priority).pending ≠ [] ∧
        (s.entry 55).latch = some { count := 1, firstTime := 0, detail := some 5 }) ∧
      (greeted.channel .priority).state ≠ .idle ∧ (greeted.channel .priority).pending = [] := by
  decide +kernel

theorem witness_ReturnedEntriesGoToTheFront :
    ((outstanding .servicing).channel .routine).state ≠ .idle ∧
      ((outstanding .servicing).channel .priority).inFlight.filter
        ((outstanding .servicing).belongsTo .routine) = [] ∧
      (let s := withRoutine (fun ch => { ch with state := .idle })
          ((outstanding .servicing).setEntry 55 { posted with route := .routine });
        (s.channel .routine).state = .idle ∧ (s.channel .routine).pending = [] ∧
          1 ≤ (s.channel .routine).itemLimit ∧
          (s.channel .priority).inFlight.filter (s.belongsTo .routine) = [55]) := by decide +kernel

/-- A ready part in each channel state: the hypotheses of the channel requests' statements. -/
theorem witness_readyInEveryChannelState :
    ∀ x ∈ channelStates, (outstanding x).ready 7 ∧ ((outstanding x).channel .priority).state = x := by
  decide +kernel

theorem witness_ChannelOpenSetsTheParameters :
    (∀ n ∈ [(1 : Byte), 12], 1 ≤ n.toNat ∧ n.toNat ≤ 12) ∧ (0 : Byte).toNat = 0 ∧ 12 < (13 : Byte).toNat ∧
      (7 : Byte).toNat ≤ 7 ∧ 7 < (8 : Byte).toNat ∧ (∀ b ∈ [(0 : Byte), 3], b ≠ 1 ∧ b ≠ 2) := by decide

theorem witness_CloseAndSettleEndNotices :
    ((outstanding .offered).channel .priority).number = 1 ∧ (3 : Byte) ≠ 1 ∧ (3 : Byte) ≠ 2 := by
  decide +kernel

theorem witness_AcceptTakesANoticeIntoService :
    ((outstanding .offered).channel .priority).number = 1 ∧
      ((outstanding .servicing).channel .priority).number ≠ 2 ∧ (0 : Byte) ≠ 1 ∧ (0 : Byte) ≠ 2 := by
  decide +kernel

theorem witness_ChannelTimersRunOut :
    (let ch := (outstanding .offered).channel .priority;
      (outstanding .offered).phase = .running ∧ ch.state = .offered ∧ ch.offerTimer = .running 3 ∧
        ch.retryCount < ch.retries) ∧
      (let ch := (withPriority (fun ch => { ch with retryCount := 3 }) (outstanding .offered)).channel .priority;
        ch.state = .offered ∧ ch.offerTimer = .running 3 ∧ ch.retries ≤ ch.retryCount) ∧
      ((greeted.channel .priority).state ≠ .offered ∧ (greeted.channel .priority).offerTimer = .stopped) ∧
      ((outstanding .servicing).channel .priority).serviceTimer = some 3 ∧
      (greeted.channel .priority).serviceTimer = none := by decide +kernel

theorem witness_TransitionsMoveTheRecord :
    ∀ target ∈ lifeStates, (1 : SlotId) ≠ 0 ∧ (0 : EntryId) ≠ ⟨36 + (0 : SlotId).val, by decide⟩ ∧
      ((target = .off ∨ target = .running ∨ target = .asleep ∨ target = .faulted) ∨
        (target ≠ .off ∧ target ≠ .running ∧ target ≠ .asleep ∧ target ≠ .faulted)) := by decide

theorem witness_TransitionsMoveTheRecord_unlist :
    (1 : SlotId) ∉ shedAsleep.staging.shedList.map ShedPlace.slot ∧
      (0 : SlotId) ∈ shedAsleep.staging.shedList.map ShedPlace.slot ∧
      (shedAsleep.staging.shedList.filter fun p => decide (p.slot ≠ 0)) = [] ∧
      (let u : Staging := { shedAsleep.staging with
          shedList := [{ slot := 0, action := .sleep }, { slot := 5, action := .stop }] };
        (0 : SlotId) ∈ u.shedList.map ShedPlace.slot ∧
          (u.shedList.filter fun p => decide (p.slot ≠ 0)) ≠ []) := by decide +kernel

theorem witness_StepsTestTheirLineAtEntry : (inState .off).lifeOf 0 ≠ .queued := by decide +kernel

theorem witness_SlotOnAsksForPowerUp :
    (let s := withLines (fun l => { l with present := Line.released }) (inState .off);
      s.ready 7 ∧ s.lifeOf 0 = .off ∧ (s.lineSet 0).present.level = false) ∧
      (let s := withStaging (fun u => { u with rail := .lost }) (inState .off);
        s.ready 7 ∧ s.lifeOf 0 = .off ∧ (s.lineSet 0).present.level = true ∧ s.staging.rail = .lost) ∧
      ((inState .off).lineSet 0).present.level = true ∧ (inState .off).staging.rail = .good := by
  decide +kernel

theorem witness_SlotConfigSetsAllFields :
    (SlotConfig.coldStart .off).inRange ∧
      ({ powerUpLimit := 255, resetHold := 255, sleepEntryLimit := 255, wakeLimit := 255, stopLimit := 255,
         offTime := 255, intercept := true, verdictLimit := 255, defaultVerdict := .grant,
         holdWaitLimit := 255, idleAction := .sleep, idleLimit := 4095, supervisionInterval := 255,
         overrideTime := 15, resumePolicy := .on, wakeFromOff := true, shedRank := 6,
         shedAction := .stop } : SlotConfig).inRange ∧
      (List.replicate 19 (0 : Byte)).length = 19 := by decide

theorem witness_SlotConfig_bad_block : ∀ c : SlotConfig, c.inRange → List.replicate 19 0 ≠ c.bytes := by
  intro c h heq
  have h0 : (0 : Byte) = natByte c.powerUpLimit := (List.cons.inj heq).1
  have h1 : 0 = c.powerUpLimit % 256 := congrArg BitVec.toNat h0
  have := h.1
  omega

theorem witness_StepLimitsRunOut :
    (∀ x ∈ lifeStates, (inState x).phase = .running ∧
      ((inState x).slot 0).last = some { cause := .host, time := 0 }) ∧
      ((inStep .waking .wake).slot 0).step.map StepTimer.kind = some .wake := by decide +kernel

theorem witness_SupplyAndReadyEdges :
    (∀ x ∈ lifeStates, ((inState x).lineSet 0).pgood.level = false ∧ ((inState x).lineSet 0).rdy.level = false ∧
      ((inState x).slot 0).last = some { cause := .host, time := 0 } ∧
      ((inState x).slot 0).deferredWake = none) ∧
      (let s := withLines (fun l => { l with pgood := Line.settled true, rdy := Line.settled true })
          (inStep .waking .wake);
        s.phase = .running ∧ (s.lineSet 0).pgood.level = true ∧ (s.lineSet 0).rdy.level = true ∧
          (s.slot 0).state = .waking ∧ (s.slot 0).step.map StepTimer.kind = some .wake) ∧
      ¬ ((inStep .waking .powerUp).slot 0).step.map StepTimer.kind = some .wake ∧
      (let s := withSlot (fun x => { x with deferredWake := some .host }) (inStep .entering .sleepEntry);
        (s.slot 0).state = .entering ∧ (s.slot 0).deferredWake = some .host) := by decide +kernel

theorem witness_PresenceIsRecorded :
    (greeted.lineSet 0).present.level = false ∧
      (∀ x ∈ lifeStates, ((inState x).lineSet 0).present.level = true) := by decide +kernel

theorem witness_SleepRequestsByOrigin :
    (let x := (inState .running).slot 0;
      x.config.intercept = false ∧ x.holds = 0) ∧
      (let x := (withSlot (fun x => { x with config := { x.config with intercept := true } })
          (inState .running)).slot 0;
        x.config.intercept = true ∧ SleepOrigin.line ≠ .host) ∧
      ((waiting false 1).slot 0).holds ≠ 0 ∧ (1 : Byte).toNat ≤ 1 ∧ 1 < (2 : Byte).toNat := by decide +kernel

theorem witness_WakeRequestsByState :
    (let s := withStaging (fun u => { u with shedList := [{ slot := 0, action := .sleep }] })
        (inState .asleep);
      (0 : SlotId) ∈ s.staging.shedList.map ShedPlace.slot) ∧
      (∀ x ∈ lifeStates, (0 : SlotId) ∉ (inState x).staging.shedList.map ShedPlace.slot ∧
        ((inState x).slot 0).deferredWake = none) ∧
      ((withSlot (fun x => { x with deferredWake := some .host })
        (inState .entering)).slot 0).deferredWake.isSome = true := by decide +kernel

theorem witness_VerdictsAndWaitsEnd :
    (∀ awaited : Bool, (waiting awaited 0).ready 7 ∨ awaited = false) ∧
      (waiting true 0).phase = .running ∧ ((waiting true 0).slot 0).state = .sleepWait ∧
      ((waiting true 0).slot 0).pendingSleep = some { origin := .line, verdictAwaited := true } ∧
      ((waiting true 0).slot 0).verdictTimer.isSome = true ∧ (waiting false 1).ready 7 ∧
      ((waiting false 1).slot 0).pendingSleep = some { origin := .line, verdictAwaited := false } ∧
      ((waiting false 1).slot 0).verdictTimer = none ∧ ((waiting false 1).slot 0).step.isSome = true ∧
      ((waiting false 1).slot 0).holds ≠ 0 ∧ ((waiting true 0).slot 0).holds = 0 ∧
      ((waiting true 0).slot 0).step.isSome = true ∧ ((inState .sleepWait).slot 0).step = none ∧
      ((inState .sleepWait).slot 0).pendingSleep = none := by decide +kernel

theorem witness_HostHoldsAreCounted :
    (∀ n ∈ [0, 14, 15], (withSlot (fun x => { x with hostHolds := n, holds := n })
      (inState .running)).ready 7) ∧
      (waiting false 1).ready 7 ∧ 0 < ((waiting false 1).slot 0).hostHolds ∧
      ((waiting false 1).slot 0).holds = 1 ∧ ((waiting false 1).slot 0).state = .sleepWait ∧
      ((waiting false 1).slot 0).pendingSleep = some { origin := .line, verdictAwaited := false } := by
  decide +kernel

/-- Slot 1 under supervision. -/
def watched (once fallback : Bool) : State :=
  withSlot (fun x => { x with
    heartbeat := some 5, expiredOnce := once, fallback := fallback
    config := { x.config with supervisionInterval := 255 } }) (inState .running)

theorem witness_HeartbeatsAndTheirExpiry :
    (∀ once fallback : Bool, (watched once fallback).phase = .running ∧
      ((watched once fallback).slot 0).state = .running ∧
      ((watched once fallback).slot 0).heartbeat.isSome = true ∧
      ((watched once fallback).slot 0).expiredOnce = once ∧
      ((watched once fallback).slot 0).fallback = fallback) ∧
      (watched true true).ready 7 ∧ ((watched true true).slot 0).config.supervisionInterval ≠ 0 ∧
      ((inState .running).slot 0).config.supervisionInterval = 0 ∧
      ¬ (((inState .running).slot 0).state = .running ∧
        ((inState .running).slot 0).heartbeat.isSome = true) := by decide +kernel

theorem witness_RecoveryClearReleasesBsel :
    (watched false true).ready 7 ∧ 1 < (2 : Byte).toNat := by decide +kernel

theorem witness_ButtonsPressHoldAndOverride :
    (∀ x ∈ lifeStates, ((inState x).lineSet 0).btn.level = false ∧ ((inState x).slot 0).buttonHold = none) ∧
      (let s := withLines (fun l => { l with btn := Line.settled true })
          (withSlot (fun x => { x with buttonHold := some 5 }) (inState .running));
        (s.lineSet 0).btn.level = true ∧ (s.slot 0).buttonHold.isSome = true ∧ (s.slot 0).state ≠ .off) ∧
      ((withSlot (fun x => { x with buttonHold := some 5 }) (inState .off)).slot 0).buttonHold.isSome =
        true := by decide +kernel

theorem witness_StagingTimersAndSettings :
    greeted.phase = .running ∧ greeted.staging.startQueue = [] ∧
      busy.staging.startQueue = { slot := 0, origin := .host } :: [] ∧ greeted.ready 7 := by decide +kernel

theorem witness_TheRailIsLostAndReturns :
    greeted.phase = .running ∧ greeted.board.mainGood.level = false ∧ greeted.staging.rail = .lost ∧
      greeted.staging.settleTimer = none ∧ greeted.staging.railSettle ≠ 0 ∧
      (withStaging (fun u => { u with railSettle := 0 }) greeted).staging.railSettle = 0 ∧
      (withStaging (fun u => { u with settleTimer := some 1 }) greeted).staging.settleTimer.isSome = true ∧
      (inState .running).staging.rail = .good ∧
      ((inState .running).setBoard { greeted.board with mainGood := Line.settled true }).board.mainGood.level =
        true := by decide +kernel

/-- Slot 1 of a rank and in the shed list or not, at a shed level. -/
def shedding (x : LifeState) (rank : Nat) (list : List ShedPlace) (restore : Restore) : State :=
  withStaging (fun u => { u with shedList := list, restore := restore })
    (withSlot (fun r => { r with config := { r.config with shedRank := rank } }) (inState x))

theorem witness_HeatShedsAndCoolRestores :
    greeted.board.therm.level = false ∧
      (greeted.setBoard { greeted.board with therm := Line.settled true }).board.therm.level = true ∧
      greeted.staging.coolTimer = none ∧
      (withStaging (fun u => { u with coolTimer := some 1 }) greeted).staging.coolTimer.isSome = true ∧
      (∀ level ∈ [1, 2, 3, 4, 5, 6], ∀ i : SlotId,
        ¬ ((inState .running).eligible level i = true)) ∧
      (let s := shedding .running 6 [] .clear;
        s.staging.shedLevel < 6 ∧ s.lifeOf 0 = .running ∧ (s.slot 0).config.shedRank = 6 ∧
          (0 : SlotId) ∉ s.staging.shedList.map ShedPlace.slot ∧
          ∀ level ∈ [1, 2, 3, 4, 5], ∀ i : SlotId, s.eligible level i = false) ∧
      (∀ rest ∈ [([] : List ShedPlace), [{ slot := 1, action := .stop }]],
        ∀ x ∈ lifeStates, ∀ action ∈ [ShedAction.sleep, .stop],
          let s := shedding x 1 (rest ++ [{ slot := 0, action := action }]) .between
          s.staging.restore = .between ∧ s.staging.shedList = rest ++ [{ slot := 0, action := action }] ∧
            (0 : SlotId) ∉ rest.map ShedPlace.slot ∧ s.lifeOf 0 = x ∧
            (s.lineSet 0).pgood.level = false) ∧
      (shedding .off 1 [{ slot := 0, action := .stop }] .between).autoClaimable 0 = true ∧
      greeted.staging.shedList = [] ∧
      ((withLines (fun l => { l with pgood := Line.settled true })
        (shedding .asleep 1 [] .between)).lineSet 0).pgood.level = true := by decide +kernel

theorem witness_ShedConfigReplacesTheSettings :
    greeted.ready 7 ∧ (1 : Byte) ≠ 0 ∧ (255 : Byte) ≠ 0 ∧ 1 < (2 : Byte).toNat := by decide +kernel

theorem witness_TimersStartStopAndRunOut :
    greeted.ready 7 ∧ (∀ p ∈ [((1 : Byte), (0 : TimerId)), (4, 3)], p.1.toNat = p.2.val + 1) ∧
      (0 : Byte).toNat = 0 ∧ 4 < (5 : Byte).toNat ∧ 1 < (2 : Byte).toNat ∧
      (0 : Byte) ++ (1 : Byte) ≠ (0 : Half) ∧ (0 : Byte) ++ (0 : Byte) = (0 : Half) ∧
      (greeted.timer 0).state = .stopped ∧
      (∀ mode ∈ [TimerMode.once, .repeats],
        let s := greeted.setTimer 0 { state := .running, mode := mode, interval := 9, remaining := 1 }
        s.ready 7 ∧ (s.timer 0).state = .running ∧ (s.timer 0).mode = mode) := by decide +kernel

end Sys2Proof.Tests
end

section
/-! PROOF. The hold counts (R12, R79): the number of entries that hold a slot after a change of one entry's
record, and that every primitive change of State keeps the counts exact (O11). -/

namespace Sys2Proof.Machine

/-! ### Counting the entries that hold a slot -/

/-- Two predicates that differ at most at `a` count alike, but for `a` itself. -/
theorem countP_of_agree {α : Type} {p q : α → Bool} {a : α} {l : List α} (hl : l.Nodup)
    (ha : a ∈ l) (h : ∀ b, b ≠ a → q b = p b) :
    l.countP q + (p a).toNat = l.countP p + (q a).toNat := by
  induction l with
  | nil => simp at ha
  | cons b l ih =>
    obtain ⟨hb, hl⟩ := List.nodup_cons.mp hl
    by_cases hab : b = a
    · subst hab
      have hrest : l.countP q = l.countP p :=
        List.countP_congr fun c hc => by rw [h c fun e => hb (e ▸ hc)]
      cases hp : p b <;> cases hq : q b <;> simp [hrest, hp, hq]
    · have hi := ih hl ((List.mem_cons.mp ha).resolve_left fun e => hab e.symm)
      simp only [List.countP_cons, h b hab]
      omega

/-- The number of entries that hold a slot, as a count over the table. -/
theorem entryHolds_eq_countP (s : State) (i : SlotId) : s.entryHolds i =
    (List.finRange 60).countP fun e => (s.entry e).effectiveHold.getLsbD i.val :=
  List.countP_eq_length_filter.symm

/-- An entry's hold is effective on a slot while it is enabled and latched and its hold set names the slot
(R12). -/
theorem effectiveHold_getLsbD (x : Entry) (i : SlotId) : x.effectiveHold.getLsbD i.val =
    decide (x.enabled = true ∧ x.latched = true ∧ x.holdSet.getLsbD i.val = true) := by
  unfold Entry.effectiveHold
  cases x.enabled <;> cases x.latched <;> simp

/-- The number of entries that hold a slot is read from the table alone. -/
theorem entryHolds_of_entries {s t : State} (h : t.entries = s.entries) (i : SlotId) :
    t.entryHolds i = s.entryHolds i := by
  simp [State.entryHolds, State.entry, h]

/-- An entry whose hold is effective on a slot is counted there. -/
theorem entryHolds_pos {s : State} {e : EntryId} {i : SlotId}
    (h : (s.entry e).effectiveHold.getLsbD i.val = true) : 0 < s.entryHolds i := by
  rw [entryHolds_eq_countP, List.countP_pos_iff]
  exact ⟨e, List.mem_finRange e, h⟩

/-- The number of entries that hold a slot follows a change of one entry's record as the slot's hold count
does (R12). -/
theorem entryHolds_replaceEntry (e : EntryId) (x : Entry) (s : State) (i : SlotId) :
    (replaceEntry e x s).entryHolds i = holdsAfter ((s.entry e).effectiveHold.getLsbD i.val)
      (x.effectiveHold.getLsbD i.val) (s.entryHolds i) := by
  have hcount := countP_of_agree (p := fun e' => (s.entry e').effectiveHold.getLsbD i.val)
    (q := fun e' => ((replaceEntry e x s).entry e').effectiveHold.getLsbD i.val)
    (List.nodup_finRange 60) (List.mem_finRange e)
    fun e' he => by rw [replaceEntry_entry_ne x s he]
  rw [← entryHolds_eq_countP, ← entryHolds_eq_countP, replaceEntry_entry] at hcount
  cases hold : (s.entry e).effectiveHold.getLsbD i.val <;>
    cases hnew : x.effectiveHold.getLsbD i.val <;>
    simp only [hold, hnew, Bool.toNat_true, Bool.toNat_false] at hcount <;>
    simp only [holdsAfter] <;> omega

/-! ### What keeps the hold counts exact -/

/-- A change that leaves the table and every slot's two counts keeps the hold counts exact. -/
theorem holdsAgree_of_frame {s t : State} (h : s.holdsAgree) (he : t.entries = s.entries)
    (hs : ∀ i, (t.slot i).holds = (s.slot i).holds ∧ (t.slot i).hostHolds = (s.slot i).hostHolds) :
    t.holdsAgree := by
  intro i
  rw [(hs i).1, (hs i).2, entryHolds_of_entries he]
  exact h i

/-- A change that leaves the table and the slots keeps the hold counts exact. -/
theorem holdsAgree_of_slots {s t : State} (h : s.holdsAgree) (he : t.entries = s.entries)
    (hs : t.slots = s.slots) : t.holdsAgree :=
  holdsAgree_of_frame h he fun i => by rw [slot_of_slots hs]; exact ⟨rfl, rfl⟩

/-- A change of one slot's record keeps the hold counts exact when its hold count moves with its host
holds. -/
theorem holdsAgree_setSlot {s : State} {i : SlotId} {x : Slot} (h : s.holdsAgree)
    (hx : x.holds = x.hostHolds + s.entryHolds i) : (s.setSlot i x).holdsAgree := by
  intro j
  rw [entryHolds_of_entries (State.setSlot_entries s i x)]
  by_cases hj : j = i
  · subst hj; simpa using hx
  · rw [State.slot_setSlot_ne s x hj]; exact h j

/-- A change of an entry's record keeps the hold counts exact (R12, R19 step 1). -/
theorem holdsAgree_replaceEntry {s : State} (e : EntryId) (x : Entry) (h : s.holdsAgree) :
    (replaceEntry e x s).holdsAgree := by
  intro i
  rw [entryHolds_replaceEntry, replaceEntry_slot]
  simp only [h i]
  cases hold : (s.entry e).effectiveHold.getLsbD i.val <;>
    cases hnew : x.effectiveHold.getLsbD i.val <;> simp only [holdsAfter]
  · omega
  · have hpos := entryHolds_pos hold
    omega

theorem holdsAgree_occur {s : State} (e : EntryId) (d : Option Half) (h : s.holdsAgree) :
    (occur e d s).holdsAgree := by
  have hr := holdsAgree_replaceEntry e ((s.entry e).record s.uptime d) h
  unfold occur
  extract_lets recorded
  split
  · exact holdsAgree_of_slots hr (by simp [sendWakes, recorded]) (by simp [sendWakes, recorded])
  · exact hr

theorem holdsAgree_clearEntry {s : State} (e : EntryId) (h : s.holdsAgree) :
    (clearEntry e s).holdsAgree := by
  unfold clearEntry
  split
  · exact h
  · exact holdsAgree_of_slots (holdsAgree_replaceEntry e _ h) rfl rfl

/-- The move of an entry's pending place leaves the table. -/
@[simp] theorem replace_entries (e : EntryId) (s : State) : (replace e s).entries = s.entries := by
  simp only [replace]
  split
  · split <;> simp [dropPending]
  · rfl

/-- The move of an entry's pending place leaves the slots. -/
@[simp] theorem replace_slots (e : EntryId) (s : State) : (replace e s).slots = s.slots := by
  simp only [replace]
  split
  · split <;> simp [dropPending]
  · rfl

theorem holdsAgree_reconfigure {s : State} (e : EntryId) (new : Entry) (h : s.holdsAgree) :
    (reconfigure e new s).holdsAgree := by
  have hp := holdsAgree_of_slots
    (holdsAgree_replaceEntry e { new with latch := (s.entry e).latch } h)
    (replace_entries e _) (replace_slots e _)
  unfold reconfigure
  extract_lets placed
  split
  · exact holdsAgree_occur e none hp
  · exact hp

theorem holdsAgree_enter {s : State} (i : SlotId) (target : LifeState) (cause : Cause)
    (step : Option StepTimer) (h : s.holdsAgree) : (enter i target cause step s).holdsAgree := by
  have hm : (s.setSlot i ((s.slot i).moved target cause s.uptime step)).holdsAgree :=
    holdsAgree_setSlot h (h i)
  unfold enter
  extract_lets before moved told
  have ht : told.holdsAgree := holdsAgree_of_slots hm rfl rfl
  split
  · exact holdsAgree_occur _ _ ht
  · exact ht

/-- A cold start has no hold anywhere: no entry is enabled (R24), and every count is 0 (R73). -/
theorem holdsAgree_coldStart (reason : RestartReason) (s : State) :
    (coldStart reason s).holdsAgree := by
  intro i
  have he : (coldStart reason s).entryHolds i = 0 := by
    rw [entryHolds_eq_countP, List.countP_eq_zero]
    intro e _
    simp [coldStart, State.coldStarted, State.entry, Entry.coldStart, Entry.effectiveHold]
  rw [he]
  simp [coldStart, State.coldStarted, State.slot, Slot.coldStart]

/-- The primitive changes of State keep the hold counts exact. -/
theorem closed_holdsAgree : Closed State.holdsAgree where
  inside h he _ _ hs _ _ _ _ := holdsAgree_of_slots h he hs
  staging h _ _ _ _ := holdsAgree_of_slots h rfl rfl
  unlist h := holdsAgree_of_slots h rfl rfl
  emptied h _ _ _ _ := holdsAgree_of_slots h rfl rfl
  returned h _ := holdsAgree_of_slots h rfl rfl
  slot {_ i _} h _ hh hc _ _ := holdsAgree_setSlot h (by rw [hh, hc]; exact h i)
  slots {s f} h hf := holdsAgree_of_frame h rfl fun i => by
    obtain ⟨-, hh, hc, -⟩ := hf i (s.slot i)
    rw [State.slot_mapSlots]; exact ⟨hh, hc⟩
  hold {s i} h := holdsAgree_setSlot h (by have := h i; dsimp only; omega)
  unhold {s i} h _ := holdsAgree_setSlot h (by have := h i; dsimp only; omega)
  discard {s} h i := by
    rw [entryHolds_of_entries (t := discardHostHolds s) (s := s) rfl]
    have := h i
    simp only [discardHostHolds, State.slot_mapSlots]
    omega
  counted {s} h := holdsAgree_of_frame h rfl fun i => by
    simp [State.counted, State.slot, Slot.counted]
  cold _ := holdsAgree_coldStart _ _
  enter h _ _ _ _ _ := holdsAgree_enter _ _ _ _ h
  release h _ _ _ := holdsAgree_enter _ _ _ _ h
  enqueue h _ _ _ _ := holdsAgree_of_slots (holdsAgree_enter _ _ _ _ h) rfl rfl
  shed h _ _ _ := holdsAgree_enter _ _ _ _ (holdsAgree_of_slots h rfl rfl)
  override {_ i} h := holdsAgree_enter _ _ _ _ (holdsAgree_setSlot h (h i))
  occur h := holdsAgree_occur _ _ h
  clearEntry h := holdsAgree_clearEntry _ h
  reconfigure h := holdsAgree_reconfigure _ _ h
  channel h _ _ _ _ := holdsAgree_of_slots h (by simp) (by simp)
  compose h := holdsAgree_of_slots h (by simp) (by simp)
  endNotice h _ := holdsAgree_of_slots h (endNotice_entries _ _ _) (endNotice_slots _ _ _)
  restart h := holdsAgree_of_slots h rfl rfl

/-- Settles O11: exact hold counts are closed under every primitive change of State, and so under every
step. -/
theorem holdCountsStayExact : Obligations.HoldCountsStayExact := by
  exact ⟨fun s t hs ht => closed_holdsAgree.step id hs ht, fun s i =>
    congrArg List.length (List.filter_congr fun e _ => effectiveHold_getLsbD (s.entry e) i)⟩

end Sys2Proof.Machine
end

section
/-! PROOF. One occurrence (R9 to R12): the entry it latches or counts, the hold it raises, and the pending list
it joins (O26, O27). -/

namespace Sys2Proof.Machine

/-! ### The record of an occurrence -/

/-- A count of one byte stops at 255 (R10). -/
theorem satInc_byte (n : Byte) : satInc n = if n = 255 then 255 else n + 1 := by
  have hmax : BitVec.allOnes 8 = (255 : Byte) := rfl
  unfold satInc
  rw [hmax]
  by_cases h : n = 255
  · rw [if_pos h, if_pos h, h]
  · rw [if_neg h, if_neg h]

/-- The first occurrence latches a clear entry (R9). -/
theorem record_of_clear {x : Entry} (now : Word) (d : Option Half) (h : x.latch = none) :
    x.record now d = { x with latch := some { count := 1, firstTime := now, detail := d } } := by
  simp [Entry.record, h]

/-- A later occurrence counts a latched entry and brings a carried detail (R10). -/
theorem record_of_latched {x : Entry} {l : Latch} (now : Word) (d : Option Half)
    (h : x.latch = some l) : x.record now d = { x with latch := some {
      count := if l.count = 255 then 255 else l.count + 1
      firstTime := l.firstTime
      detail := if d.isSome then d else l.detail } } := by
  cases d <;> simp [Entry.record, h, satInc_byte]

/-- What an occurrence on an entry adds to a slot's hold count: one, when it makes the entry's hold effective
there (R12). -/
theorem holdsAfter_record (x : Entry) (now : Word) (d : Option Half) (i : SlotId) (n : Nat) :
    holdsAfter (x.effectiveHold.getLsbD i.val) ((x.record now d).effectiveHold.getLsbD i.val) n =
      n + (if x.enabled = true ∧ x.latch = none ∧ x.holdSet.getLsbD i.val = true then 1 else 0) := by
  obtain ⟨henabled, -, -, -, hholds⟩ := record_configuration x now d
  rw [effectiveHold_getLsbD, effectiveHold_getLsbD, record_latched, henabled, hholds]
  cases hlatch : x.latch <;> cases x.enabled <;> cases x.holdSet.getLsbD i.val <;>
    simp [Entry.latched, hlatch, holdsAfter]

/-- Settles O26, part by part from the rules about one occurrence: its entry, the other entries, the wake
requests, the slots, and what it leaves. -/
theorem occurrencesLatchAndCount : Obligations.OccurrencesLatchAndCount := by
  intro s e d
  refine ⟨fun h => ?_, fun l h => ?_, fun e' he => occur_entry_ne d s he, occur_wakes e d s,
    fun i => ?_, occur_staging e d s, occur_outside e d s⟩
  · rw [occur_entry, record_of_clear _ _ h]
  · rw [occur_entry, record_of_latched _ _ h]
  · rw [occur_slot, holdsAfter_record]

/-! ### Joining a pending list -/

/-- A channel's record is read from the two channels alone. -/
theorem channel_of_channels {s t : State} (hp : t.priority = s.priority)
    (hr : t.routine = s.routine) (c : ChannelId) : t.channel c = s.channel c := by
  cases c
  · exact hp
  · exact hr

/-- The notice items are read from the table alone (R31). -/
theorem itemOf_of_entries {s t : State} (h : t.entries = s.entries) : t.itemOf = s.itemOf := by
  funext e
  simp [State.itemOf, entry_of_entries h e]

@[simp] theorem itemOf_setChannel (s : State) (c : ChannelId) (x : Channel) :
    (s.setChannel c x).itemOf = s.itemOf := itemOf_of_entries (State.setChannel_entries s c x)

theorem otherChannel_ne (c : ChannelId) : otherChannel c ≠ c := by cases c <;> simp [otherChannel]

/-- A composition is its own channel's (R30). -/
theorem compose_channel_ne {c d : ChannelId} (s : State) (h : d ≠ c) :
    (compose c s).channel d = s.channel d := by
  unfold compose
  split
  · exact State.channel_setChannel_ne s _ h
  · rfl

/-- A join leaves the other channel (R28). -/
theorem joinTail_channel_ne {c d : ChannelId} (e : EntryId) (s : State) (h : d ≠ c) :
    (joinTail c e s).channel d = s.channel d := by
  rw [joinTail, compose_channel_ne _ h, State.channel_setChannel_ne s _ h]

/-- An entry that joins a list whose channel is not IDLE stands at its tail (R28). -/
theorem joinTail_channel_of_not_idle {c : ChannelId} (e : EntryId) {s : State}
    (h : (s.channel c).state ≠ .idle) : (joinTail c e s).channel c =
      { s.channel c with pending := (s.channel c).pending ++ [e] } := by
  simp [joinTail, compose, h]

/-- An IDLE channel composes with the entry that joins (R30). -/
theorem joinTail_channel_of_idle {c : ChannelId} (e : EntryId) {s : State}
    (h : (s.channel c).state = .idle) : (joinTail c e s).channel c = Channel.composed
      { s.channel c with pending := (s.channel c).pending ++ [e] } s.itemOf := by
  simp [joinTail, compose, h]

/-- An entry that has no list to join stays where it is (R9, R10). -/
theorem joinIfUnplaced_of_placed {e : EntryId} {s : State}
    (h : ∀ c, (s.entry e).route.channel? = some c →
      s.inFlight e = true ∨ s.pendingIn c e = true) : joinIfUnplaced e s = s := by
  unfold joinIfUnplaced
  split
  · rename_i c hc
    rcases h c hc with hplaced | hplaced <;> simp [hplaced]
  · rfl

/-- An entry with a route that stands nowhere joins its list (R9, R10). -/
theorem joinIfUnplaced_of_unplaced {e : EntryId} {s : State} {c : ChannelId}
    (hc : (s.entry e).route.channel? = some c) (hf : s.inFlight e = false)
    (hp : s.pendingIn c e = false) : joinIfUnplaced e s = joinTail c e s := by
  simp [joinIfUnplaced, hc, hf, hp]

theorem inFlight_iff (s : State) (e : EntryId) :
    s.inFlight e = true ↔ e ∈ s.priority.inFlight ∨ e ∈ s.routine.inFlight := by
  simp [State.inFlight]

theorem pendingIn_iff (s : State) (c : ChannelId) (e : EntryId) :
    s.pendingIn c e = true ↔ e ∈ (s.channel c).pending := by
  simp [State.pendingIn]

@[simp] theorem replaceEntry_inFlight (e e' : EntryId) (x : Entry) (s : State) :
    (replaceEntry e x s).inFlight e' = s.inFlight e' := rfl

@[simp] theorem replaceEntry_pendingIn (e e' : EntryId) (x : Entry) (s : State) (c : ChannelId) :
    (replaceEntry e x s).pendingIn c e' = s.pendingIn c e' := by
  rw [State.pendingIn, replaceEntry_channel]; rfl

/-- An occurrence on a disabled entry, or on one that has no list to join, leaves both channels (R9, R10). -/
theorem occur_channels_of_placed {e : EntryId} (d : Option Half) {s : State}
    (h : (s.entry e).enabled = true → ∀ c, (s.entry e).route.channel? = some c →
      s.inFlight e = true ∨ s.pendingIn c e = true) :
    (occur e d s).priority = s.priority ∧ (occur e d s).routine = s.routine := by
  obtain ⟨-, -, hroute, -⟩ := record_configuration (s.entry e) s.uptime d
  unfold occur
  extract_lets recorded
  split
  · rename_i henabled
    have hstays : joinIfUnplaced e recorded = recorded :=
      joinIfUnplaced_of_placed fun c hc => by
        rw [replaceEntry_entry, hroute] at hc
        rw [replaceEntry_inFlight, replaceEntry_pendingIn]
        exact h henabled c hc
    rw [hstays]
    exact ⟨rfl, rfl⟩
  · exact ⟨rfl, rfl⟩

/-- An occurrence on an enabled entry that stands nowhere is a join of its route's list (R9, R10). -/
theorem occur_channel_of_unplaced {e : EntryId} (d : Option Half) {s : State} {c : ChannelId}
    (henabled : (s.entry e).enabled = true) (hc : (s.entry e).route.channel? = some c)
    (hf : s.inFlight e = false) (hp : s.pendingIn c e = false) (c' : ChannelId) :
    (occur e d s).channel c' =
      (joinTail c e (replaceEntry e ((s.entry e).record s.uptime d) s)).channel c' := by
  obtain ⟨-, -, hroute, -⟩ := record_configuration (s.entry e) s.uptime d
  have hjoins := joinIfUnplaced_of_unplaced
    (s := replaceEntry e ((s.entry e).record s.uptime d) s) (e := e) (c := c)
    (by rw [replaceEntry_entry, hroute, hc]) hf
    (by rwa [replaceEntry_pendingIn])
  simp [occur, henabled, hjoins, sendWakes]

/-- The table after an occurrence is the table with the entry's new record. -/
theorem occur_entries (e : EntryId) (d : Option Half) (s : State) : (occur e d s).entries =
    (replaceEntry e ((s.entry e).record s.uptime d) s).entries := by
  unfold occur
  split <;> simp [sendWakes]

/-- Settles O27: an occurrence leaves both channels or is a join of its route's list, and a join composes where
the channel is IDLE. -/
theorem occurrencesJoinTheirList : Obligations.OccurrencesJoinTheirList := by
  refine ⟨rfl, rfl, fun s e d => ⟨fun h => ?_, fun c hc hp => ?_, fun c henabled hc h1 h2 hp => ?_⟩⟩
  · refine occur_channels_of_placed d fun henabled c hc => ?_
    rcases h with hoff | hnone | hflight
    · rw [hoff] at henabled; cases henabled
    · rw [hnone] at hc; cases hc
    · exact .inl ((inFlight_iff s e).mpr hflight)
  · refine occur_channels_of_placed d fun _ c' hc' => .inr ?_
    obtain rfl : c = c' := Option.some.inj (hc.symm.trans hc')
    exact (pendingIn_iff s c e).mpr hp
  · have hchannel := occur_channel_of_unplaced d henabled hc
      (by simp [State.inFlight, h1, h2]) (by simpa [State.pendingIn] using hp)
    refine ⟨?_, fun hstate => ?_, fun hstate => ?_⟩
    · rw [hchannel, joinTail_channel_ne e _ (otherChannel_ne c), replaceEntry_channel]
    · rw [hchannel, joinTail_channel_of_not_idle e (by rwa [replaceEntry_channel]),
        replaceEntry_channel]
    · rw [hchannel, joinTail_channel_of_idle e (by rwa [replaceEntry_channel]),
        replaceEntry_channel, itemOf_of_entries (occur_entries e d s)]

end Sys2Proof.Machine
end

section
/-! PROOF. The conditioned lines (R4, R5, R7, R8, R91): the line a pin feeds, what a row of an edge does, what
a raw pin does to the conditioning, and what is due at the end of a period (O28, O29). -/

namespace Sys2Proof.Machine

/-! ### Commands of a running part -/

/-- What a command at a running part comes to: its effect with what follows on it. -/
theorem run_of_running {f : State → State} {s : State} (h : s.phase = .running) :
    run f s = .next (f s).concluded := by
  rw [run, if_pos h]; rfl

/-! ### The line behind a pin -/

@[simp] theorem setPinLine_entry (s : State) (p : Pin) (x : Line) (e : EntryId) :
    (s.setPinLine p x).entry e = s.entry e := by cases p <;> rfl

/-- A pin's line after its own record is written. -/
theorem pinLine_setPinLine {s : State} {p : Pin} {x : Line} (y : Line) (h : s.pinLine p = some x) :
    (s.setPinLine p y).pinLine p = some y := by
  cases p
  case rxd | lrate1 | lrate0 | autostart => cases h
  all_goals simp [State.pinLine, State.setPinLine]

/-- The record of one pin's line is no other pin's. -/
theorem pinLine_setPinLine_ne {s : State} {p q : Pin} (y : Line) (h : q ≠ p) :
    (s.setPinLine p y).pinLine q = s.pinLine q := by
  cases p
  case gei n =>
    cases q
    case gei m =>
      have hm : m ≠ n := fun e => h (congrArg Pin.gei e)
      simp [State.pinLine, State.setPinLine, State.geiLine_setGeiLine_ne s y hm]
    all_goals rfl
  case mainGood | therm => cases q <;> first | rfl | exact absurd rfl h
  case wake i | alert i | slpReq i | btn i | present i | hbeat i | act i | rdy i | pgood i =>
    cases q
    case wake j | alert j | slpReq j | btn j | present j | hbeat j | act j | rdy j | pgood j =>
      by_cases hj : j = i
      · subst hj
        first | exact absurd rfl h | simp [State.pinLine, State.setPinLine]
      · simp [State.pinLine, State.setPinLine, State.lineSet_setLineSet_ne s _ hj]
    all_goals rfl
  all_goals rfl

/-- A pin's line is a record of the board lines or of the slots' lines, and no debounce time. -/
theorem setPinLine_frame (s : State) (p : Pin) (y : Line) :
    (s.setPinLine p y).board.geiDebounce = s.board.geiDebounce ∧
      s.setPinLine p y =
        { s with board := (s.setPinLine p y).board, lines := (s.setPinLine p y).lines } := by
  cases p <;> exact ⟨rfl, rfl⟩

/-! ### Rows that name an edge -/

/-- A row that names the level the line has is no edge (log 3). -/
theorem lineTakes_of_level {s : State} {p : Pin} {x : Line} (hx : s.pinLine p = some x) :
    lineTakes p x.level s = s.setPinLine p (Line.settled x.level) := by
  simp [lineTakes, hx]

/-- A row that names the other level is the edge to it (log 3). -/
theorem lineTakes_of_edge {s : State} {p : Pin} {x : Line} {level : Bool}
    (hx : s.pinLine p = some x) (hl : level ≠ x.level) : lineTakes p level s = edge p level s := by
  simp [lineTakes, hx, hl.symm]

/-- A row of an edge at a running part, by the level of its line. -/
theorem run_lineTakes {s : State} {p : Pin} {x : Line} (level : Bool) (hs : s.phase = .running)
    (hx : s.pinLine p = some x) : run (lineTakes p level) s = .next (if x.level = level
      then (s.setPinLine p (Line.settled level)).concluded else (edge p level s).concluded) := by
  rw [run_of_running hs]
  split
  · rename_i hl
    subst hl
    rw [lineTakes_of_level hx]
  · rename_i hl
    rw [lineTakes_of_edge hx (Ne.symm hl)]

/-! ### Edges at the Event Table (R7) -/

/-- Which triggers take which edge (R7). -/
theorem takesEdge_iff (t : Trigger) (level : Bool) : t.takesEdge level = true ↔
    (level = true ∧ (t = .rise ∨ t = .both ∨ t = .high)) ∨
      (level = false ∧ (t = .fall ∨ t = .both ∨ t = .low)) := by
  cases t <;> cases level <;> decide

/-- An edge is an occurrence exactly when the entry's trigger takes it (R7). -/
theorem edgeAt_eq (e : EntryId) (level : Bool) (u : State) : edgeAt e level u =
    if (level = true ∧ ((u.entry e).trigger = .rise ∨ (u.entry e).trigger = .both ∨
          (u.entry e).trigger = .high)) ∨
        (level = false ∧ ((u.entry e).trigger = .fall ∨ (u.entry e).trigger = .both ∨
          (u.entry e).trigger = .low))
      then occur e none u else u :=
  if_congr (takesEdge_iff _ _) rfl rfl

/-- Settles O28: each row is an edge or none by its line's level, and an edge reaches its entry by the
trigger. -/
theorem lineEdgesFollowTheTrigger : Obligations.LineEdgesFollowTheTrigger := by
  intro s hs taken occurs edged
  have edged_eq : ∀ (e : EntryId) (p : Pin) (level : Bool),
      edged e level (taken p level) = edgeAt e level (taken p level) := by
    intro e p level
    rw [edgeAt_eq, setPinLine_entry]
  refine ⟨fun n level => ?_, fun i level => ?_, fun i => ?_, fun i hl => ?_, fun i hl => ?_,
    fun e level u => edgeAt_eq e level u⟩
  · rw [edged_eq]
    exact run_lineTakes (p := .gei n) level hs rfl
  · rw [edged_eq]
    exact run_lineTakes (p := .alert i) level hs rfl
  · rw [edged_eq]
    exact run_lineTakes (p := .wake i) false hs rfl
  · exact (run_lineTakes (p := .wake i) true hs rfl).trans (by rw [if_neg (by simp [hl])]; rfl)
  · exact (run_lineTakes (p := .wake i) true hs rfl).trans (by rw [if_pos hl]; rfl)

/-! ### Raw pins (R4, R5) -/

/-- A raw pin of a conditioned line at a running part. -/
theorem exec_pinLevelChange {s : State} {p : Pin} {x : Line} (level : Bool)
    (hs : s.phase = .running) (hx : s.pinLine p = some x) :
    exec (.pinLevelChange p level) s = .next (conditionPin p level x s).concluded := by
  have hexec : exec (.pinLevelChange p level) s = .next (conclude (pinChanges p level) s) :=
    congrArg _ (if_pos hs)
  rw [hexec, conclude, pinChanges, hx]
  rfl

/-- Back at the conditioned level a running period is abandoned. -/
theorem conditionPin_of_level (p : Pin) (x : Line) (s : State) : conditionPin p x.level x s =
    s.setPinLine p { pin := x.level, level := x.level, period := none } := if_pos rfl

/-- At the other level a running period runs on. -/
theorem conditionPin_of_period {p : Pin} {level : Bool} {x : Line} {left : Nat} (s : State)
    (hl : level ≠ x.level) (hp : x.period = some left) : conditionPin p level x s =
      s.setPinLine p { pin := level, level := x.level, period := some left } := by
  simp [conditionPin, hl, hp]

/-- At the other level a period starts where the line has a time. -/
theorem conditionPin_of_time {p : Pin} {level : Bool} {x : Line} {s : State} (hl : level ≠ x.level)
    (hp : x.period = none) (ht : s.qualifyTime p level ≠ 0) : conditionPin p level x s =
      s.setPinLine p
        { pin := level, level := x.level, period := some (s.qualifyTime p level) } := by
  simp [conditionPin, hl, hp, ht]

/-- At the other level a line without a time takes the level at once. -/
theorem conditionPin_of_no_time {p : Pin} {level : Bool} {x : Line} {s : State}
    (hl : level ≠ x.level) (hp : x.period = none) (ht : s.qualifyTime p level = 0) :
    conditionPin p level x s = edge p level s := by
  simp [conditionPin, hl, hp, ht]

/-! ### The row of an edge -/

/-- The row that names an edge does what the edge does (log 3). -/
theorem exec_lineCommand {s : State} {p : Pin} {x : Line} {level : Bool} {c : Instr}
    (hs : s.phase = .running) (hx : s.pinLine p = some x) (hl : level ≠ x.level)
    (hc : lineCommand p level = some c) : exec c s = .next (edge p level s).concluded := by
  have htakes : run (lineTakes p level) s = .next (edge p level s).concluded := by
    rw [run_lineTakes level hs hx, if_neg hl.symm]
  have hedge : run (edge p level) s = .next (edge p level s).concluded := run_of_running hs
  unfold lineCommand at hc
  split at hc <;> cases hc <;> first | exact htakes | exact hedge

/-- An edge that no row names does nothing (R78, R96, R100). -/
theorem deliver_of_no_command {p : Pin} {level : Bool} (h : lineCommand p level = none) (u : State) :
    deliver p level u = u := by
  unfold lineCommand at h
  split at h <;> first | rfl | cases h

/-! ### The end of a period (R4, log 4) -/

@[simp] theorem counted_geiLine (s : State) (n : GeiLine) :
    s.counted.geiLine n = (s.geiLine n).counted := by
  simp [State.counted, State.geiLine, BoardLines.counted]

@[simp] theorem counted_lineSet (s : State) (i : SlotId) :
    s.counted.lineSet i = (s.lineSet i).counted := by
  simp [State.counted, State.lineSet]

/-- A period of one millisecond has run out a millisecond later. -/
theorem counted_of_last {l : Line} (h : l.period = some 1) :
    l.counted = { l with period := some 0 } := by simp [Line.counted, countDown, h]

/-- A rise of SLPREQ at the end of its period waits for its row. -/
theorem fallen_of_pin {l : Line} (h : l.pin = true) : l.fallen = l := by simp [Line.fallen, h]

theorem mem_due_of_board {s : State} {c : Instr} (h : c ∈ s.dueAtBoard) : c ∈ s.due := by
  simp [State.due, h]

theorem mem_due_of_slot {s : State} {c : Instr} {i : SlotId} (h : c ∈ s.dueAtSlot i) :
    c ∈ s.due := by
  have hslots : c ∈ (List.finRange 6).flatMap s.dueAtSlot :=
    List.mem_flatMap.mpr ⟨i, List.mem_finRange i, h⟩
  simp [State.due, hslots]

/-- At the end of its period the row of a line's edge is due (log 4). -/
theorem lineCommand_due {s : State} {p : Pin} {x : Line} {c : Instr}
    (hx : s.pinLine p = some x) (hc : lineCommand p x.pin = some c) (hp : x.period = some 1)
    (ht : s.qualifyTime p x.pin ≠ 0 ∨ ∃ n, p = .gei n) : c ∈ s.counted.due := by
  cases p
  case rxd | lrate1 | lrate0 | autostart => cases hx
  case hbeat | act | rdy => simp [State.qualifyTime] at ht
  case gei n =>
    cases hx; cases hc
    have hn : Instr.geiEdge n (s.geiLine n).pin ∈ (List.finRange 12).flatMap fun n =>
        dueIf (s.counted.geiLine n).ripe (.geiEdge n (s.counted.geiLine n).pin) :=
      List.mem_flatMap.mpr ⟨n, List.mem_finRange n, by simp [counted_of_last hp, Line.ripe, dueIf]⟩
    exact mem_due_of_board (by simp only [State.dueAtBoard, List.mem_append, hn, true_or])
  case mainGood | therm =>
    have hline := Option.some.inj hx
    refine mem_due_of_board ?_
    obtain ⟨pin, level, period⟩ := x
    cases pin <;> cases hc <;>
      simp [State.qualifyTime, State.dueAtBoard, State.counted, BoardLines.counted, hline,
        counted_of_last hp, Line.ripe, dueIf] at ht ⊢
  case wake i | alert i | slpReq i | btn i | present i | pgood i =>
    have hline := Option.some.inj hx
    refine mem_due_of_slot (i := i) ?_
    obtain ⟨pin, level, period⟩ := x
    cases pin <;> cases hc <;>
      simp [State.qualifyTime, State.dueAtSlot, SlotLines.counted, hline, counted_of_last hp,
        fallen_of_pin, Line.ripe, dueIf] at ht ⊢

/-- The end of the period of a fall of SLPREQ, which no row names (R78, log 4). -/
theorem slpReq_falls {s : State} {i : SlotId}
    (h : (s.lineSet i).slpReq = { pin := false, level := true, period := some 1 }) :
    s.counted.pinLine (.slpReq i) = some { pin := false, level := false, period := none } := by
  simp [State.pinLine, SlotLines.counted, h, Line.counted, countDown, Line.fallen, Line.settled]

/-- Settles O29, by the four branches of the conditioning, the row of each edge, and what is due at the end of a
period. -/
theorem rawPinsAreConditioned : Obligations.RawPinsAreConditioned := by
  refine ⟨fun s => ⟨fun n => rfl, rfl, rfl, fun i => rfl, rfl, fun p x y hx =>
    ⟨pinLine_setPinLine y hx, fun q hq => pinLine_setPinLine_ne y hq, setPinLine_frame s p y⟩⟩, ?_⟩
  intro s p level x hs hx
  refine ⟨fun hl => ?_, fun hl left hp => ?_, fun hl hp ht => ?_, fun hl hp ht => ?_,
    fun c hc hl => ⟨exec_lineCommand hs hx hl hc, fun hp ht => ?_, fun hpin hp ht => ?_⟩,
    deliver_of_no_command, fun i hi hfall => ?_, fun n => rfl, rfl,
    fun i => ⟨rfl, rfl, rfl, rfl, rfl, rfl, rfl, rfl, rfl⟩, rfl⟩
  · subst hl
    rw [exec_pinLevelChange _ hs hx, conditionPin_of_level]
  · rw [exec_pinLevelChange _ hs hx, conditionPin_of_period s hl hp]
  · rw [exec_pinLevelChange _ hs hx, conditionPin_of_time hl hp ht]
  · rw [exec_pinLevelChange _ hs hx, conditionPin_of_no_time hl hp ht]; rfl
  · rw [exec_pinLevelChange _ hs hx, conditionPin_of_no_time hl hp ht,
      exec_lineCommand hs hx hl hc]
  · subst hpin
    exact lineCommand_due hx hc hp ht
  · subst hi hfall
    exact slpReq_falls (Option.some.inj hx)

end Sys2Proof.Machine
end

section
/-! PROOF. EVENT_CONFIG, EVENT_POST and INPUT_CONFIG (R13 to R15, R19, R21, R141): the checks of their fields and
the change of an entry in one step (O30, O32). -/

namespace Sys2Proof.Machine

/-! ### A request at a ready part -/

/-- A request of the right length at a ready part is answered as its owner says. -/
theorem exec_request {c : ReqCode} {seq : Byte} {args : List Byte} {s : State} {d : Answered}
    (h : s.ready seq) (hl : args.length + 1 = c.length) (hd : carryOut c args s = d) :
    exec (requestCommand c seq args) s = .next (d.state.answered seq d.reply) := by
  rw [exec_requestCommand, request_of_ready h hl, hd]

/-! ### Fields of a request -/

theorem fourField_of_range {b : Byte} (h : 1 ≤ b.toNat ∧ b.toNat ≤ 4) :
    fourField b = some ⟨b.toNat - 1, by omega⟩ := dif_pos h

theorem fourField_of_outside {b : Byte} (h : ¬ (1 ≤ b.toNat ∧ b.toNat ≤ 4)) :
    fourField b = none := dif_neg h

theorem geiField_of_range {b : Byte} (h : b.toNat < 12) : geiField b = some ⟨b.toNat, h⟩ := dif_pos h

theorem geiField_of_outside {b : Byte} (h : 12 ≤ b.toNat) : geiField b = none :=
  dif_neg (Nat.not_lt.mpr h)

/-- Settles O32, by the range of each request's number. -/
theorem eventPostAndInputConfig : Obligations.EventPostAndInputConfig := by
  intro s seq b high low h
  refine ⟨fun hb => ?_, fun hb => ?_, fun hb => ?_, fun hb => ?_⟩
  · have hentry : postedEntry ⟨b.toNat - 1, by omega⟩ = ⟨54 + b.toNat, by omega⟩ :=
      Fin.ext (by simp only [postedEntry]; omega)
    exact exec_request (c := .eventPost) h rfl
      (d := answer .done (occur ⟨54 + b.toNat, by omega⟩ (some (high ++ low)) s))
      (by simp only [carryOut, eventPost, fourField_of_range hb, hentry, halfOf])
  · exact exec_request (c := .eventPost) h rfl (d := answer .badValue s)
      (by simp only [carryOut, eventPost, fourField_of_outside hb])
  · exact exec_request (c := .inputConfig) h rfl
      (d := answer .done (s.setBoard { s.board with
        geiDebounce := s.board.geiDebounce.set b.toNat low.toNat hb }))
      (by simp only [carryOut, inputConfig, geiField_of_range hb])
  · exact exec_request (c := .inputConfig) h rfl (d := answer .badValue s)
      (by simp only [carryOut, inputConfig, geiField_of_outside hb])

/-! ### The fields of EVENT_CONFIG -/

theorem entryField_ofNat (e : EntryId) : entryField (BitVec.ofNat 8 e.val) = some e := by
  have hval : (BitVec.ofNat 8 e.val).toNat = e.val := by
    rw [BitVec.toNat_ofNat, Nat.mod_eq_of_lt (by omega)]
  simp [entryField, hval]

theorem boolField_ite (b : Bool) : boolField (if b then 1 else 0) = some b := by
  cases b <;> rfl

/-- A trigger fits its entry: PULSE at the internal sources alone (R7, R19). -/
theorem triggerField_code {e : EntryId} {t : Trigger} (h : t = .pulse ↔ 24 ≤ e.val) :
    triggerField e t.code = some t := by
  have hfits : decide (e.val < 24) = (t != .pulse) := by
    rw [Bool.eq_iff_iff]
    simp only [decide_eq_true_eq, bne_iff_ne, ne_eq, h, not_le]
  cases t <;> simp_all [triggerField, Trigger.code]

theorem routeField_code (r : Route) : routeField r.code = some r := by cases r <;> rfl

theorem slotSetField_setWidth (x : SlotSet) : slotSetField (x.setWidth 8) = some x := by
  have hlt := x.isLt
  have hval : (x.setWidth 8).toNat = x.toNat := by
    rw [BitVec.toNat_setWidth, Nat.mod_eq_of_lt (by omega)]
  rw [slotSetField, if_pos (by omega)]
  refine congrArg some (BitVec.eq_of_toNat_eq ?_)
  rw [BitVec.extractLsb'_toNat, hval, Nat.shiftRight_zero, Nat.mod_eq_of_lt hlt]

/-! ### The values out of range -/

theorem entryField_of_outside {b : Byte} (h : 60 ≤ b.toNat) : entryField b = none :=
  dif_neg (Nat.not_lt.mpr h)

theorem boolField_of_outside {b : Byte} (h : 2 ≤ b.toNat) : boolField b = none := by
  have h0 : b ≠ 0 := by rintro rfl; exact absurd h (by decide)
  have h1 : b ≠ 1 := by rintro rfl; exact absurd h (by decide)
  rw [boolField, if_neg h0, if_neg h1]

/-- A trigger code above PULSE, or one that does not fit the entry's source, is out of range (R19). -/
theorem triggerField_of_outside {e : EntryId} {b : Byte}
    (h : (e.val < 24 ∧ 5 ≤ b.toNat) ∨ (24 ≤ e.val ∧ b.toNat ≠ 5)) : triggerField e b = none := by
  unfold triggerField
  split
  · rename_i t ht
    refine if_neg fun hfits => ?_
    have hcode : t = .pulse ↔ b.toNat = 5 := by
      split at ht <;> cases ht <;> simp_all
    have hlt : t = .pulse ↔ 24 ≤ e.val := by
      rw [Bool.eq_iff_iff] at hfits
      simp only [decide_eq_true_eq, bne_iff_ne, ne_eq] at hfits
      rw [← not_iff_not, ← hfits, not_le]
    have hle : b.toNat ≤ 5 := by split at ht <;> first | omega | cases ht
    rcases h with ⟨hline, h5⟩ | ⟨hinner, h5⟩
    · exact absurd (hlt.mp (hcode.mpr (by omega))) (by omega)
    · exact h5 (hcode.mp (hlt.mpr hinner))
  · rfl

theorem routeField_of_outside {b : Byte} (h : 3 ≤ b.toNat) : routeField b = none := by
  unfold routeField
  split <;> first | rfl | omega

theorem slotSetField_of_outside {b : Byte} (h : 64 ≤ b.toNat) : slotSetField b = none :=
  if_neg (Nat.not_lt.mpr h)

/-- A request with a value out of range changes nothing (R19). -/
theorem eventConfig_of_outside {b1 b2 b3 b4 b5 b6 : Byte} (s : State)
    (h : 60 ≤ b1.toNat ∨ 2 ≤ b2.toNat ∨ (b1.toNat < 24 ∧ 5 ≤ b3.toNat) ∨
      (24 ≤ b1.toNat ∧ b3.toNat ≠ 5) ∨ 3 ≤ b4.toNat ∨ 64 ≤ b5.toNat ∨ 64 ≤ b6.toNat) :
    eventConfig [b1, b2, b3, b4, b5, b6] s = answer .badValue s := by
  unfold eventConfig
  dsimp only
  by_cases h1 : b1.toNat < 60
  · rw [show entryField b1 = some ⟨b1.toNat, h1⟩ from dif_pos h1]
    dsimp only
    split
    · rename_i henabled htrigger hroute hwakes hholds
      exfalso
      rcases h with h | h | h | h | h | h | h
      · omega
      · rw [boolField_of_outside h] at henabled; cases henabled
      · rw [triggerField_of_outside (.inl h)] at htrigger; cases htrigger
      · rw [triggerField_of_outside (.inr h)] at htrigger; cases htrigger
      · rw [routeField_of_outside h] at hroute; cases hroute
      · rw [slotSetField_of_outside h] at hwakes; cases hwakes
      · rw [slotSetField_of_outside h] at hholds; cases hholds
    · rfl
  · rw [entryField_of_outside (Nat.not_lt.mp h1)]

/-! ### The pending place of an entry (R19, step 2) -/

/-- An entry that a channel's list must hold: enabled, latched, in flight nowhere, and routed there (R28). -/
def wantsPlace (s : State) (e : EntryId) (c : ChannelId) : Prop :=
  (s.entry e).enabled = true ∧ (s.entry e).latched = true ∧ e ∉ s.priority.inFlight ∧
    e ∉ s.routine.inFlight ∧ (s.entry e).route.channel? = some c

/-- The channel whose list must hold an entry, if any. -/
theorem wantsPlace_iff (s : State) (e : EntryId) (c : ChannelId) : wantsPlace s e c ↔
    (if (s.entry e).enabled && (s.entry e).latched && !s.inFlight e
      then (s.entry e).route.channel? else none) = some c := by
  unfold wantsPlace
  cases (s.entry e).enabled <;> cases (s.entry e).latched <;> simp [State.inFlight, and_assoc]

/-- An entry that no list must hold leaves the list it is in. -/
theorem replace_of_unwanted {e : EntryId} {s : State} (h : ∀ c, ¬ wantsPlace s e c) :
    replace e s = dropPending e s := by
  unfold replace
  extract_lets x
  split
  · rename_i c hc
    exact absurd ((wantsPlace_iff s e c).mpr hc) (h c)
  · rfl

/-- An entry stays in the list that must hold it, and else joins that list's tail and leaves the other
list. -/
theorem replace_of_wanted {e : EntryId} {s : State} {c : ChannelId} (h : wantsPlace s e c) :
    replace e s = if s.pendingIn c e then s else joinTail c e (dropPending e s) := by
  rw [wantsPlace_iff] at h
  simp only [replace, h]

@[simp] theorem dropPending_channel (e : EntryId) (s : State) (c : ChannelId) :
    (dropPending e s).channel c = (s.channel c).without e := by cases c <;> rfl

/-- A list that does not hold an entry has nothing to give up. -/
theorem without_of_not_mem {ch : Channel} {e : EntryId} (h : e ∉ ch.pending) : ch.without e = ch := by
  have hfilter : ch.pending.filter (· ≠ e) = ch.pending :=
    List.filter_eq_self.mpr fun a ha => by
      simp only [decide_eq_true_eq]; rintro rfl; exact h ha
  unfold Channel.without
  rw [hfilter]

@[simp] theorem replace_staging (e : EntryId) (s : State) : (replace e s).staging = s.staging := by
  simp only [replace]
  split
  · split <;> simp [dropPending]
  · rfl

@[simp] theorem replace_wakes (e : EntryId) (s : State) : (replace e s).wakes = s.wakes := by
  simp only [replace]
  split
  · split <;> simp [dropPending]
  · rfl

/-- A slot's hold count after a change of an entry's record, by what held the slot before and after
(R19, step 1). -/
theorem holdsAfter_decide (p q : Prop) [Decidable p] [Decidable q] (n : Nat) :
    holdsAfter (decide p) (decide q) n =
      if ¬ p ∧ q then n + 1 else if p ∧ ¬ q then n - 1 else n := by
  by_cases hp : p <;> by_cases hq : q <;> simp [hp, hq, holdsAfter]

/-- Settles O30: the checks field by field, and the change by whether a channel's list must hold the entry. -/
theorem eventConfigChangesInOneStep : Obligations.EventConfigChangesInOneStep := by
  intro s seq h
  refine ⟨fun e new hfits => ?_, fun b1 b2 b3 b4 b5 b6 hout => ?_, fun e new => ?_⟩
  · exact exec_request (c := .eventConfig) h rfl (d := answer .done (reconfigure e new s))
      (by simp only [carryOut, eventConfig, entryField_ofNat, boolField_ite, triggerField_code hfits,
        routeField_code, slotSetField_setWidth]; rfl)
  · exact exec_request (c := .eventConfig) h rfl (d := answer .badValue s)
      (eventConfig_of_outside s hout)
  · intro held placed wants counted
    have hwants : ∀ c, wants c ↔ wantsPlace (replaceEntry e held s) e c := fun c => by
      simp only [wantsPlace, replaceEntry_entry, replaceEntry_priority, replaceEntry_routine, wants]
    have hentries : placed.entries = (replaceEntry e held s).entries := replace_entries _ _
    have hdropped : ∀ c, e ∉ (s.channel c).pending →
        (dropPending e (replaceEntry e held s)).channel c = s.channel c := fun c hp => by
      rw [dropPending_channel, replaceEntry_channel, without_of_not_mem hp]
    have hjoins : ∀ c, wants c → e ∉ (s.channel c).pending →
        placed = joinTail c e (dropPending e (replaceEntry e held s)) := fun c hc hp => by
      have hout : s.pendingIn c e = false := by simp [State.pendingIn, hp]
      simp only [placed, replace_of_wanted ((hwants c).mp hc), replaceEntry_pendingIn, hout,
        Bool.false_eq_true, if_false]
    refine ⟨fun hsame => if_neg ?_, fun ht hactive => if_pos ⟨ht, hactive⟩, ?_, fun e' he => ?_,
      fun i => ?_, fun hnone c => ?_, fun c hc hp => ?_, fun c hc hp hstate => ⟨?_, ?_⟩,
      fun c hc hp hstate => ?_, replace_staging _ _, replace_wakes _ _, ?_⟩
    · rintro ⟨ht, hactive⟩
      rcases hsame with hsame | hsame
      · exact ht hsame
      · exact absurd hactive (Bool.eq_false_iff.mp hsame)
    · rw [entry_of_entries hentries, replaceEntry_entry]
    · rw [entry_of_entries hentries, replaceEntry_entry_ne _ _ he]
    · rw [slot_of_slots (replace_slots e _), replaceEntry_slot, effectiveHold_getLsbD,
        effectiveHold_getLsbD, holdsAfter_decide]
    · have hplaced : placed = dropPending e (replaceEntry e held s) :=
        replace_of_unwanted fun c hc => hnone c ((hwants c).mpr hc)
      rw [hplaced, dropPending_channel, replaceEntry_channel]
      rfl
    · have hplaced : placed = replaceEntry e held s := by
        rw [← pendingIn_iff] at hp
        simp only [placed, replace_of_wanted ((hwants c).mp hc), replaceEntry_pendingIn, hp, if_true]
      rw [hplaced]
      exact ⟨rfl, rfl⟩
    · rw [hjoins c hc hp, joinTail_channel_of_not_idle e (by rwa [hdropped c hp]), hdropped c hp]
    · rw [hjoins c hc hp, joinTail_channel_ne e _ (otherChannel_ne c), dropPending_channel,
        replaceEntry_channel]
      rfl
    · have hnot : e ∉ (s.channel c).pending := by simp [hp]
      rw [hjoins c hc hnot, joinTail_channel_of_idle e (by rwa [hdropped c hnot]), hdropped c hnot,
        hp, itemOf_of_entries (joinTail_entries _ _ _)]
      rfl
    · rw [replace_outside, replaceEntry_outside]

end Sys2Proof.Machine
end

section
/-! PROOF. EVENT_CLEAR (R8, R12, R16, R22): when an entry is level-active, what the clearing of a set of entries
leaves, and the bytes of an entry set (O31). -/

namespace Sys2Proof.Machine

/-! ### Bits of a flags field -/

/-- The number that a list of bits spells, bit 0 first. -/
theorem testBit_foldr_bits (bits : List Bool) (j : Nat) :
    (bits.foldr (fun (b : Bool) (acc : Nat) => (if b then 1 else 0) + 2 * acc) 0).testBit j =
      bits[j]?.getD false := by
  induction bits generalizing j with
  | nil => simp
  | cons b bits ih =>
    have hbit : ∀ n : Nat, (if b then 1 else 0) + 2 * n = Nat.bit b n := fun n => by
      cases b <;> simp [Nat.bit, Nat.add_comm]
    cases j with
    | zero => simp [hbit]
    | succ j => simpa [hbit, Nat.testBit_bit_succ] using ih j

/-- Bit j of a flags byte is the j-th of its bits. -/
theorem flagsByte_getLsbD {bits : List Bool} {j : Nat} (hj : j < 8) :
    (flagsByte bits).getLsbD j = bits[j]?.getD false := by
  rw [flagsByte, BitVec.getLsbD_ofNat, testBit_foldr_bits]
  simp [hj]

/-- Bit 8 * (7 - k) + j of an entry set is bit j of its byte k (R166). -/
theorem entrySetBytes_getLsbD (es : List EntryId) {k j : Nat} (hk : k < 8) (hj : j < 8) :
    ((entrySetBytes es)[k]?.getD 0).getLsbD j = decide (8 * (7 - k) + j ∈ es.map Fin.val) := by
  have hbyte : (entrySetBytes es)[k]? = some (flagsByte ((List.range 8).map fun j =>
      decide (8 * (7 - k) + j ∈ es.map Fin.val))) := by
    simp [entrySetBytes, hk]
  rw [hbyte, Option.getD_some, flagsByte_getLsbD hj]
  simp [hj]

/-! ### Level-active entries (R8) -/

/-- The level condition of a line source (R7). -/
theorem conditionHolds_some (t : Trigger) (l : Bool) :
    t.conditionHolds (some l) = true ↔ (t = .high ∧ l = true) ∨ (t = .low ∧ l = false) := by
  cases t <;> simp [Trigger.conditionHolds]

/-- An internal source has no level condition (R7). -/
theorem conditionHolds_none (t : Trigger) : t.conditionHolds none = false := by
  cases t <;> rfl

theorem entryLevel_gei (s : State) {e : EntryId} {n : GeiLine} (h : e.val = n.val) :
    s.entryLevel e = some (s.geiLine n).level := by
  have hn : ∀ hlt, (⟨e.val, hlt⟩ : GeiLine) = n := fun _ => Fin.ext h
  rw [State.entryLevel, dif_pos (by omega), hn]

theorem entryLevel_wake (s : State) {e : EntryId} {i : SlotId} (h : e.val = 12 + i.val) :
    s.entryLevel e = some (s.lineSet i).wake.level := by
  have hi : ∀ hlt, (⟨e.val - 12, hlt⟩ : SlotId) = i := fun _ => Fin.ext (by simp only; omega)
  rw [State.entryLevel, dif_neg (by omega), dif_pos (by omega), hi]

theorem entryLevel_alert (s : State) {e : EntryId} {i : SlotId} (h : e.val = 18 + i.val) :
    s.entryLevel e = some (s.lineSet i).alert.level := by
  have hi : ∀ hlt, (⟨e.val - 18, hlt⟩ : SlotId) = i := fun _ => Fin.ext (by simp only; omega)
  rw [State.entryLevel, dif_neg (by omega), dif_neg (by omega), dif_pos (by omega), hi]

theorem entryLevel_internal (s : State) {e : EntryId} (h : 24 ≤ e.val) : s.entryLevel e = none :=
  (dif_neg (by omega)).trans ((dif_neg (by omega)).trans (dif_neg (by omega)))

/-- An entry is level-active by its trigger and its line alone (R8). -/
theorem levelActive_of_trigger {s t : State} {e : EntryId}
    (he : (t.entry e).trigger = (s.entry e).trigger) (ho : t.outside = s.outside) :
    t.levelActive e = s.levelActive e := by
  have hlevel : t.entryLevel e = s.entryLevel e := by
    simp only [State.entryLevel, State.geiLine, State.lineSet, board_of_outside ho,
      lines_of_outside ho]
  rw [State.levelActive, State.levelActive, he, hlevel]

/-! ### The clearing of one entry (R16) -/

/-- A level-active entry is left as it is. -/
theorem clearEntry_of_active {e : EntryId} {s : State} (h : s.levelActive e = true) :
    clearEntry e s = s := if_pos h

/-- Any other entry is cleared. -/
theorem clearEntry_of_inactive {e : EntryId} {s : State} (h : s.levelActive e = false) :
    clearEntry e s = dropPending e (replaceEntry e { s.entry e with latch := none } s) :=
  if_neg (by simp [h])

theorem clearEntry_entry (e : EntryId) (s : State) : (clearEntry e s).entry e =
    if s.levelActive e = false then { s.entry e with latch := none } else s.entry e := by
  cases h : s.levelActive e
  · rw [clearEntry_of_inactive h]; exact replaceEntry_entry _ _ _
  · rw [clearEntry_of_active h]; rfl

theorem clearEntry_entry_ne {e e' : EntryId} (s : State) (h : e' ≠ e) :
    (clearEntry e s).entry e' = s.entry e' := by
  cases ha : s.levelActive e
  · rw [clearEntry_of_inactive ha]; exact replaceEntry_entry_ne _ _ h
  · rw [clearEntry_of_active ha]

/-- A clearing makes no entry level-active and none inactive. -/
theorem clearEntry_levelActive (e e' : EntryId) (s : State) :
    (clearEntry e s).levelActive e' = s.levelActive e' := by
  refine levelActive_of_trigger ?_ (clearEntry_outside e s)
  by_cases h : e' = e
  · subst h; rw [clearEntry_entry]; split <;> rfl
  · rw [clearEntry_entry_ne s h]

/-- The clearing of an entry takes its hold from a slot. -/
def State.letsGo (s : State) (i : SlotId) (e : EntryId) : Bool :=
  decide (s.levelActive e = false ∧ (s.entry e).enabled = true ∧ (s.entry e).latched = true ∧
    (s.entry e).holdSet.getLsbD i.val = true)

/-- A slot's hold count falls by one when an entry that held it is cleared (R12). -/
theorem clearEntry_slot (e : EntryId) (s : State) (i : SlotId) : (clearEntry e s).slot i =
    { s.slot i with holds := (s.slot i).holds - (s.letsGo i e).toNat } := by
  cases h : s.levelActive e
  · have hnone : ({ s.entry e with latch := none } : Entry).effectiveHold.getLsbD i.val = false := by
      rw [effectiveHold_getLsbD]; simp [Entry.latched]
    have hgo : s.letsGo i e = (s.entry e).effectiveHold.getLsbD i.val := by
      rw [effectiveHold_getLsbD]; simp [State.letsGo, h]
    rw [clearEntry_of_inactive h, hgo]
    refine (replaceEntry_slot e _ s i).trans ?_
    rw [hnone]
    cases (s.entry e).effectiveHold.getLsbD i.val <;> rfl
  · simp [clearEntry_of_active h, State.letsGo, h]

/-- A cleared entry leaves whichever list holds it; the lists keep their order (R16). -/
theorem clearEntry_channel (e : EntryId) (s : State) (c : ChannelId) : (clearEntry e s).channel c =
    { s.channel c with
      pending := (s.channel c).pending.filter fun a =>
        decide (¬ (a = e ∧ s.levelActive e = false)) } := by
  cases h : s.levelActive e
  · simp [clearEntry_of_inactive h, Channel.without]
  · simp [clearEntry_of_active h]

theorem clearEntry_staging (s : State) (e : EntryId) : (clearEntry e s).staging = s.staging := by
  cases h : s.levelActive e
  · rw [clearEntry_of_inactive h]; rfl
  · rw [clearEntry_of_active h]

theorem clearEntry_wakes (s : State) (e : EntryId) : (clearEntry e s).wakes = s.wakes := by
  cases h : s.levelActive e
  · rw [clearEntry_of_inactive h]; rfl
  · rw [clearEntry_of_active h]

/-! ### The clearing of a set of entries (R22) -/

/-- The entries of a list are cleared one after the other. -/
def clearAll (es : List EntryId) (s : State) : State := es.foldl (fun s e => clearEntry e s) s

theorem clearAll_cons (e : EntryId) (es : List EntryId) (s : State) :
    clearAll (e :: es) s = clearAll es (clearEntry e s) := rfl

theorem clearAll_entry {es : List EntryId} (hes : es.Nodup) (s : State) (e : EntryId) :
    (clearAll es s).entry e = if e ∈ es ∧ s.levelActive e = false
      then { s.entry e with latch := none } else s.entry e := by
  induction es generalizing s with
  | nil => simp [clearAll]
  | cons a es ih =>
    obtain ⟨ha, hes⟩ := List.nodup_cons.mp hes
    rw [clearAll_cons, ih hes, clearEntry_levelActive]
    by_cases he : e = a
    · subst he; simp [ha, clearEntry_entry]
    · simp [he, clearEntry_entry_ne s he]

theorem clearAll_slot {es : List EntryId} (hes : es.Nodup) (s : State) (i : SlotId) :
    (clearAll es s).slot i =
      { s.slot i with holds := (s.slot i).holds - (es.filter (s.letsGo i)).length } := by
  induction es generalizing s with
  | nil => simp [clearAll]
  | cons a es ih =>
    obtain ⟨ha, hes⟩ := List.nodup_cons.mp hes
    have hrest : es.filter ((clearEntry a s).letsGo i) = es.filter (s.letsGo i) :=
      List.filter_congr fun e he => by
        have hne : e ≠ a := by rintro rfl; exact ha he
        rw [State.letsGo, clearEntry_levelActive, clearEntry_entry_ne s hne]; rfl
    rw [clearAll_cons, ih hes, hrest, clearEntry_slot]
    cases h : s.letsGo i a <;> simp [h, Nat.sub_sub, Nat.add_comm]

theorem clearAll_channel (es : List EntryId) (s : State) (c : ChannelId) : (clearAll es s).channel c =
    { s.channel c with
      pending := (s.channel c).pending.filter fun e =>
        decide (¬ (e ∈ es ∧ s.levelActive e = false)) } := by
  induction es generalizing s with
  | nil => simp [clearAll]
  | cons a es ih =>
    rw [clearAll_cons, ih, clearEntry_channel]
    dsimp only
    rw [List.filter_filter]
    congr 2
    funext e
    rw [clearEntry_levelActive, Bool.eq_iff_iff]
    by_cases he : e = a
    · subst he; simp; tauto
    · simp [he]

/-! ### The request -/

/-- The entries that an entry set names (R166). -/
theorem entriesOf_ofNat (n : Nat) : entriesOf (BitVec.ofNat 60 n) =
    (List.finRange 60).filter fun e => n.testBit e.val :=
  List.filter_congr fun e _ => by simp only [BitVec.getLsbD_ofNat, e.isLt, decide_true, Bool.true_and]

theorem mem_entriesOf_ofNat {n : Nat} {e : EntryId} :
    e ∈ entriesOf (BitVec.ofNat 60 n) ↔ n.testBit e.val = true := by
  rw [entriesOf_ofNat]; simp

/-- EVENT_CLEAR with a set that names an index above 59 (R22). -/
theorem eventClear_of_outside {bytes : List Byte} (s : State) (hlen : bytes.length = 8)
    (h : 2 ^ 60 ≤ bytes.foldl (fun n b => n * 256 + b.toNat) 0) :
    eventClear bytes s = answer .badValue s := by
  have hfield : entrySetField bytes = none := if_neg (Nat.not_lt.mpr h)
  simp only [eventClear, hlen, if_true, hfield]

/-- EVENT_CLEAR clears the named entries and tells those it has left (R22). -/
theorem eventClear_of_range {bytes : List Byte} (s : State) (hlen : bytes.length = 8)
    (h : bytes.foldl (fun n b => n * 256 + b.toNat) 0 < 2 ^ 60) :
    let named := entriesOf (BitVec.ofNat 60 (bytes.foldl (fun n b => n * 256 + b.toNat) 0))
    let stuck := named.filter s.levelActive
    eventClear bytes s = answerWith (if stuck = [] then .done else .stillActive)
      (entrySetBytes stuck) (clearAll named s) := by
  have hfield : entrySetField bytes =
      some (BitVec.ofNat 60 (bytes.foldl (fun n b => n * 256 + b.toNat) 0)) := if_pos h
  simp only [eventClear, hlen, if_true, hfield, clearAll]

/-- Settles O31: level-activity by the entry's source, and the clearing by induction over the named entries. -/
theorem eventClearClearsWhatItCan : Obligations.EventClearClearsWhatItCan := by
  refine ⟨fun s e => ⟨fun n hn => ?_, fun i hi => ?_, fun i hi => ?_, fun he => ?_⟩,
    fun s seq bytes h hlen => ?_⟩
  · rw [State.levelActive, entryLevel_gei s hn, conditionHolds_some]
  · rw [State.levelActive, entryLevel_wake s hi, conditionHolds_some]
  · rw [State.levelActive, entryLevel_alert s hi, conditionHolds_some]
  · rw [State.levelActive, entryLevel_internal s he, conditionHolds_none]
  · intro set cleared left
    have hlength : bytes.length + 1 = ReqCode.length .eventClear := by rw [hlen]; rfl
    refine ⟨fun hset => exec_request (c := .eventClear) h hlength (d := answer .badValue s)
      (eventClear_of_outside s hlen hset), fun hset => ?_,
      fun es => ⟨by simp [entrySetBytes], fun k j hk hj => entrySetBytes_getLsbD es hk hj⟩⟩
    have hnodup : (entriesOf (BitVec.ofNat 60 set)).Nodup := (List.nodup_finRange 60).filter _
    have hleft : (entriesOf (BitVec.ofNat 60 set)).filter s.levelActive = left := by
      rw [entriesOf_ofNat, List.filter_filter]
      exact List.filter_congr fun e _ => by
        rw [Bool.eq_iff_iff]; simp [and_comm]
    refine ⟨clearAll (entriesOf (BitVec.ofNat 60 set)) s, ?_, fun e => ?_, fun c => ?_, fun i => ?_,
      foldl_keeps State.staging _ clearEntry_staging _ s,
      foldl_keeps State.wakes _ clearEntry_wakes _ s,
      foldl_outside (fun s e => clearEntry_outside e s) _ s⟩
    · refine (exec_request (c := .eventClear) h hlength (eventClear_of_range s hlen hset)).trans ?_
      rw [hleft]
      cases left <;> rfl
    · rw [clearAll_entry hnodup]
      simp only [mem_entriesOf_ofNat, cleared]
    · rw [clearAll_channel]
      simp only [mem_entriesOf_ofNat, cleared]
    · have hgo : (entriesOf (BitVec.ofNat 60 set)).filter (s.letsGo i) =
          (List.finRange 60).filter fun e => decide (cleared e ∧ (s.entry e).enabled = true ∧
            (s.entry e).latched = true ∧ (s.entry e).holdSet.getLsbD i.val = true) := by
        rw [entriesOf_ofNat, List.filter_filter]
        exact List.filter_congr fun e _ => by
          rw [Bool.eq_iff_iff]
          simp only [State.letsGo, cleared, Bool.and_eq_true, decide_eq_true_eq]
          tauto
      rw [clearAll_slot hnodup, hgo]

end Sys2Proof.Machine
end

section
/-! PROOF. The cold start (R6, R24, R48, R73, R112, R133, R142, R157 to R160): what it leaves, block by block
(O4). -/

namespace Sys2Proof.Machine

section
variable {reason : RestartReason} {straps : Straps} {board : BoardLines} {lines : Vector SlotLines 6}
  {rxd : Bool} {pending : List Instr} {choices : Nat}

/-! ### The records after a cold start -/

theorem coldStarted_entry (e : EntryId) :
    (State.coldStarted reason straps board lines rxd pending choices).entry e =
      Entry.coldStart e := by
  simp [State.coldStarted, State.entry]

theorem coldStarted_channel (c : ChannelId) :
    (State.coldStarted reason straps board lines rxd pending choices).channel c =
      Channel.coldStart := by
  cases c <;> rfl

theorem coldStarted_slot (i : SlotId) :
    (State.coldStarted reason straps board lines rxd pending choices).slot i =
      Slot.coldStart (autostartPolicy straps.autostart lines[i].present.pin) := by
  simp [State.coldStarted, State.slot]

theorem coldStarted_timer (t : TimerId) :
    (State.coldStarted reason straps board lines rxd pending choices).timer t =
      GeneralTimer.coldStart := by
  simp [State.coldStarted, State.timer]

theorem coldStarted_geiLine (n : GeiLine) :
    (State.coldStarted reason straps board lines rxd pending choices).geiLine n =
      board.gei[n].coldStart := by
  simp [State.coldStarted, State.geiLine, BoardLines.coldStart]

theorem coldStarted_geiDebounce (n : GeiLine) :
    (State.coldStarted reason straps board lines rxd pending choices).board.geiDebounce[n] = 0 := by
  simp [State.coldStarted, BoardLines.coldStart]

theorem coldStarted_lineSet (i : SlotId) :
    (State.coldStarted reason straps board lines rxd pending choices).lineSet i =
      lines[i].coldStart := by
  simp [State.coldStarted, State.lineSet]

end

/-- The resume policy that a cold start gives (R74). -/
theorem autostartPolicy_eq (autostart present : Bool) : autostartPolicy autostart present =
    if autostart = true ∧ present = true then .on else .off := by
  cases autostart <;> cases present <;> rfl

/-- The link rate code of the straps (R143). -/
theorem linkRate_eq (p : Straps) : p.linkRate = match p.lrate1, p.lrate0 with
    | false, false => 0
    | false, true => 1
    | true, false => 2
    | true, true => 3 := by
  rw [Straps.linkRate]
  cases p.lrate1 <;> cases p.lrate0 <;> decide

/-- Settles O4, block by block from the records that a cold start writes. -/
theorem coldStartSetsEveryBlock : Obligations.ColdStartSetsEveryBlock := by
  intro reason straps board lines rxd pending choices s first
  have hentry : ∀ e, s.entry e = Entry.coldStart e := coldStarted_entry
  have hchannel : ∀ c, s.channel c = Channel.coldStart := coldStarted_channel
  have hslot : ∀ i, s.slot i = Slot.coldStart
      (if straps.autostart = true ∧ lines[i].present.pin = true then .on else .off) := fun i => by
    rw [← autostartPolicy_eq]; exact coldStarted_slot i
  have htimer : ∀ t, s.timer t = GeneralTimer.coldStart := coldStarted_timer
  have hgei : ∀ n, s.geiLine n = first board.gei[n] ∧ s.board.geiDebounce[n] = 0 := fun n =>
    ⟨coldStarted_geiLine n, coldStarted_geiDebounce n⟩
  have hlines : ∀ i, s.lineSet i = lines[i].coldStart := coldStarted_lineSet
  refine ⟨rfl, rfl, hentry, fun c => ?_, fun i => ?_, rfl, rfl, rfl, rfl, rfl, rfl, rfl, rfl, rfl,
    rfl, rfl, rfl, rfl, rfl, rfl, htimer, rfl, rfl, rfl, rfl, rfl, rfl, rfl, rfl, rfl, rfl, rfl, rfl,
    rfl, rfl, linkRate_eq straps, hgei, rfl, rfl, hlines, fun c => ?_, rfl, rfl, rfl, rfl, rfl, rfl⟩
  · rw [hchannel]
    exact ⟨rfl, rfl, rfl, rfl, rfl, rfl, rfl, rfl, rfl, rfl, rfl, rfl, rfl, rfl⟩
  · rw [hslot]
    exact ⟨rfl, rfl, rfl, rfl, rfl, rfl, rfl, rfl, rfl, rfl, rfl, rfl, rfl, rfl, rfl, rfl, rfl, rfl⟩
  · rw [hchannel]
    exact ⟨rfl, rfl⟩

end Sys2Proof.Machine
end

section
/-! PROOF. The reading requests (R18, R20, R23, R57, R132, R140, R163): the order of EVENT_LIST, the bits of
INPUT_READ, and the layouts of the reports (section 10.5), byte by byte (O25). -/

namespace Sys2Proof.Machine

/-! ### First-time order (R20) -/

/-- Entry `a` stands before entry `b` in first-time order: an earlier first time, or the same and a lower
index. -/
def State.earlier (s : State) (a b : EntryId) : Prop :=
  s.firstTimeOf a < s.firstTimeOf b ∨ (s.firstTimeOf a = s.firstTimeOf b ∧ a < b)

theorem State.firstTimeOf_le_of_earlier {s : State} {a b : EntryId} (h : s.earlier a b) :
    s.firstTimeOf a ≤ s.firstTimeOf b := by
  rcases h with h | ⟨h, -⟩ <;> omega

/-- The first time of a latched entry is that of its latch. -/
theorem firstTimeOf_of_latch {s : State} {e : EntryId} {l : Latch} (h : (s.entry e).latch = some l) :
    s.firstTimeOf e = l.firstTime.toNat := by
  simp [State.firstTimeOf, h]

theorem mem_insertByTime {s : State} {e x : EntryId} {l : List EntryId} :
    x ∈ insertByTime s e l ↔ x = e ∨ x ∈ l := by
  induction l with
  | nil => simp [insertByTime]
  | cons a l ih =>
    unfold insertByTime
    split
    · simp only [List.mem_cons, ih]; tauto
    · simp only [List.mem_cons]

/-- An entry put behind those no later than it keeps a list in first-time order, when its index is the
highest. -/
theorem pairwise_insertByTime {s : State} {e : EntryId} {l : List EntryId}
    (hl : l.Pairwise s.earlier) (he : ∀ x ∈ l, x < e) :
    (insertByTime s e l).Pairwise s.earlier := by
  induction l with
  | nil => simp [insertByTime]
  | cons a l ih =>
    obtain ⟨ha, hrest⟩ := List.pairwise_cons.mp hl
    have hae : a < e := he a (by simp)
    unfold insertByTime
    split
    · rename_i hle
      refine List.pairwise_cons.mpr ⟨fun y hy => ?_, ih hrest fun x hx => he x (by simp [hx])⟩
      rcases mem_insertByTime.mp hy with rfl | hy
      · rcases Nat.lt_or_eq_of_le hle with hlt | heq
        · exact .inl hlt
        · exact .inr ⟨heq, hae⟩
      · exact ha y hy
    · rename_i hlt
      refine List.pairwise_cons.mpr ⟨fun y hy => .inl ?_, hl⟩
      rcases List.mem_cons.mp hy with rfl | hy
      · omega
      · have hay := State.firstTimeOf_le_of_earlier (ha y hy)
        omega

/-- Entries put in one after the other, each of a higher index than those before it. -/
theorem foldl_insertByTime {s : State} {es sorted : List EntryId} (hs : sorted.Pairwise s.earlier)
    (hes : es.Pairwise (· < ·)) (hlt : ∀ x ∈ sorted, ∀ y ∈ es, x < y) :
    (es.foldl (fun sorted e => insertByTime s e sorted) sorted).Pairwise s.earlier ∧
      ∀ x, x ∈ es.foldl (fun sorted e => insertByTime s e sorted) sorted ↔ x ∈ es ∨ x ∈ sorted := by
  induction es generalizing sorted with
  | nil => simpa using hs
  | cons e es ih =>
    obtain ⟨he, hes⟩ := List.pairwise_cons.mp hes
    obtain ⟨hpairwise, hmem⟩ := ih
      (pairwise_insertByTime hs fun x hx => hlt x hx e (by simp)) hes fun x hx y hy => by
        rcases mem_insertByTime.mp hx with rfl | hx
        · exact he y hy
        · exact hlt x hx y (by simp [hy])
    refine ⟨hpairwise, fun x => ?_⟩
    rw [List.foldl_cons, hmem, mem_insertByTime, List.mem_cons]
    tauto

/-- EVENT_LIST names exactly the latched entries, in first-time order (R20). -/
theorem latchedByTime_spec (s : State) :
    s.latchedByTime.Pairwise s.earlier ∧
      ∀ e, e ∈ s.latchedByTime ↔ (s.entry e).latched = true := by
  obtain ⟨hpairwise, hmem⟩ := foldl_insertByTime (s := s) (sorted := []) .nil
    ((List.pairwise_lt_finRange 60).filter fun e => (s.entry e).latched) (by simp)
  exact ⟨hpairwise, fun e => (hmem e).trans (by simp)⟩

/-! ### Bits of a two-byte number (R23) -/

/-- Bit j of a two-byte number is the j-th of its bits, and a bit beyond them is 0. -/
theorem flagsHalf_getLsbD {bits : List Bool} (h : bits.length ≤ 16) (j : Nat) :
    (flagsHalf bits).getLsbD j = bits[j]?.getD false := by
  rw [flagsHalf, BitVec.getLsbD_ofNat, testBit_foldr_bits]
  by_cases hj : j < 16
  · simp [hj]
  · simp [hj, List.getElem?_eq_none (show bits.length ≤ j by omega)]

theorem flagsByte_getLsbD_of_length {bits : List Bool} {j : Nat} (h : bits.length ≤ j) :
    (flagsByte bits).getLsbD j = false := by
  rw [flagsByte, BitVec.getLsbD_ofNat, testBit_foldr_bits, List.getElem?_eq_none h]
  simp

/-- The bits of a two-byte number are those it was made of. -/
theorem map_getLsbD_flagsHalf {bits : List Bool} (h : bits.length ≤ 16) :
    (List.range bits.length).map (fun k => (flagsHalf bits).getLsbD k) = bits := by
  refine List.ext_getElem (by simp) fun k hk hk' => ?_
  rw [List.getElem_map, List.getElem_range, flagsHalf_getLsbD h, List.getElem?_eq_getElem hk',
    Option.getD_some]

/-! ### Flags bytes as sums (section 10.5) -/

theorem flagsByte_five : ∀ a b c d e : Bool, flagsByte [a, b, c, d, e] =
    (if a then 0x01 else 0) + (if b then 0x02 else 0) + (if c then 0x04 else 0) +
      (if d then 0x08 else 0) + (if e then 0x10 else 0) := by decide

theorem flagsByte_six : ∀ a b c d e f : Bool, flagsByte [a, b, c, d, e, f] =
    (if a then 0x01 else 0) + (if b then 0x02 else 0) + (if c then 0x04 else 0) +
      (if d then 0x08 else 0) + (if e then 0x10 else 0) + (if f then 0x20 else 0) := by decide

theorem flagsByte_eight : ∀ a b c d e f g h : Bool, flagsByte [a, b, c, d, e, f, g, h] =
    (if a then 0x01 else 0) + (if b then 0x02 else 0) + (if c then 0x04 else 0) +
      (if d then 0x08 else 0) + (if e then 0x10 else 0) + (if f then 0x20 else 0) +
      (if g then 0x40 else 0) + (if h then 0x80 else 0) := by decide

/-! ### The requests -/

theorem eventRead_of_range {first number : Byte} (s : State)
    (h : first.toNat < 60 ∧ 1 ≤ number.toNat ∧ number.toNat ≤ 8 ∧
      first.toNat + number.toNat ≤ 60) :
    eventRead [first, number] s = answerWith .done (first :: number ::
      ((List.finRange 60).filter fun e => decide (first.toNat ≤ e.val ∧
        e.val < first.toNat + number.toNat)).flatMap s.entryReport) s := if_pos h

theorem eventRead_of_outside {first number : Byte} (s : State)
    (h : ¬ (first.toNat < 60 ∧ 1 ≤ number.toNat ∧ number.toNat ≤ 8 ∧
      first.toNat + number.toNat ≤ 60)) :
    eventRead [first, number] s = answer .badValue s := if_neg h

theorem slotField_of_number {b : Byte} {i : SlotId} (h : b.toNat = i.val + 1) :
    slotField b = some i :=
  (dif_pos (by omega)).trans (congrArg some (Fin.ext (by simp only; omega)))

theorem slotField_of_outside {b : Byte} (h : b.toNat = 0 ∨ 6 < b.toNat) : slotField b = none :=
  dif_neg (by omega)

/-- A request that reads is answered DONE with its values, and changes nothing. -/
theorem exec_read {c : ReqCode} {seq : Byte} {args values : List Byte} {s : State}
    (h : s.ready seq) (hl : args.length + 1 = c.length)
    (hd : carryOut c args s = answerWith .done values s) :
    exec (requestCommand c seq args) s = .next (s.answered seq (0x00 :: values)) :=
  exec_request (d := answerWith .done values s) h hl hd

theorem status_read {s : State} {seq : Byte} (h : s.ready seq) :
    exec (.status seq []) s = .next (s.answered seq (0x00 :: s.statusReport)) :=
  exec_read (c := .status) h rfl rfl

theorem eventList_read {s : State} {seq : Byte} (h : s.ready seq) :
    exec (.eventList seq []) s = .next (s.answered seq (0x00 ::
      BitVec.ofNat 8 s.latchedByTime.length :: s.latchedByTime.map fun e => BitVec.ofNat 8 e.val)) :=
  exec_read (c := .eventList) h rfl rfl

theorem inputRead_read {s : State} {seq : Byte} (h : s.ready seq) :
    exec (.inputRead seq []) s = .next (s.answered seq (0x00 ::
      (halfBytes (flagsHalf ((List.finRange 12).map fun n => (s.geiLine n).level)) ++
        [flagsByte [s.board.mainGood.level, s.board.therm.level]] ++
        (List.finRange 6).flatMap (fun i => halfBytes (s.lineSet i).levels) ++
        (List.finRange 12).map fun n => BitVec.ofNat 8 s.board.geiDebounce[n]))) :=
  exec_read (c := .inputRead) h rfl rfl

theorem stageRead_read {s : State} {seq : Byte} (h : s.ready seq) :
    exec (.stageRead seq []) s = .next (s.answered seq (0x00 :: s.stageReport)) :=
  exec_read (c := .stageRead) h rfl rfl

theorem timerRead_read {s : State} {seq : Byte} (h : s.ready seq) :
    exec (.timerRead seq []) s = .next (s.answered seq (0x00 :: (wordBytes s.uptime ++
      (List.finRange 4).flatMap fun t => (s.timer t).bytes))) :=
  exec_read (c := .timerRead) h rfl rfl

/-! ### The parts of the reports -/

theorem boolByte_railGood (s : State) :
    boolByte s.railGood = if s.staging.rail = .good then 0x01 else 0x00 := by
  unfold State.railGood
  cases s.staging.rail <;> rfl

/-- A time left, rounded up to its unit. -/
theorem leftIn_eq {unit : Nat} (t : Option Nat) (h : 1 ≤ unit) :
    leftIn unit t = (t.getD 0 + (unit - 1)) / unit := by
  rw [leftIn, Nat.add_sub_assoc h]

/-! An absent value is told by its default (R170). -/

theorem latchCount_byte (o : Option Latch) : (o.map Latch.count).getD 0 = match o with
    | some l => l.count
    | none => 0x00 := by
  cases o <;> rfl

theorem latchTime_word (o : Option Latch) : (o.map Latch.firstTime).getD 0 = match o with
    | some l => l.firstTime
    | none => 0 := by
  cases o <;> rfl

theorem lastCause_byte (o : Option Transition) :
    ((o.map Transition.cause).map Cause.code).getD 0 = match o with
      | some t => t.cause.code
      | none => 0x00 := by
  cases o <;> rfl

theorem lastTime_word (o : Option Transition) : (o.map Transition.time).getD 0 = match o with
    | some t => t.time
    | none => 0 := by
  cases o <;> rfl

theorem step_byte (o : Option StepTimer) :
    ((o.map StepTimer.kind).map StepKind.code).getD 0 = match o with
      | some t => t.kind.code
      | none => 0x00 := by
  cases o <;> rfl

theorem stepLeft_word (o : Option StepTimer) :
    BitVec.ofNat 32 ((o.map StepTimer.left).getD 0) = match o with
      | some t => BitVec.ofNat 32 t.left
      | none => 0 := by
  cases o <;> rfl

theorem stateAtLoss_byte (o : Option LifeState) :
    (o.map LifeState.code).getD 0xFF = match o with
      | some l => l.code
      | none => 0xFF := by
  cases o <;> rfl

theorem deferredWake_byte (o : Option Cause) : (o.map Cause.code).getD 0 = match o with
    | some c => c.code
    | none => 0x00 := by
  cases o <;> rfl

theorem sleepOrigin_byte (o : Option PendingSleep) :
    (o.map fun p => p.origin.code).getD 0 = match o with
      | some p => p.origin.code
      | none => 0x00 := by
  cases o <;> rfl

theorem restoreSlot_byte (r : Restore) : slotOrNone r.slot? = match r with
    | .watching i => BitVec.ofNat 8 (i.val + 1)
    | .clear => 0x00
    | .between => 0x00 := by
  cases r <;> rfl

theorem sourceKindCode_eq : ∀ e : EntryId, sourceKindCode e =
    if e < 12 then 0x00 else if e < 18 then 0x01 else if e < 24 then 0x02
      else if e < 30 then 0x03 else if e < 36 then 0x04 else if e < 42 then 0x05
      else if e < 48 then 0x06 else if e = 48 then 0x07 else if e = 49 then 0x08
      else if e = 50 then 0x09 else if e < 55 then 0x0A else if e < 59 then 0x0B else 0x0C := by
  decide

/-- Bits 5 to 7 of an entry's flags are its place code. -/
theorem placeCode_byte (s : State) (e : EntryId) : natByte (32 * s.placeCode e) =
    if e ∈ s.priority.pending then 0x20 else if e ∈ s.routine.pending then 0x40
      else if e ∈ s.priority.inFlight then 0x60 else if e ∈ s.routine.inFlight then 0x80
      else 0x00 := by
  simp only [State.placeCode, pendingIn_iff, State.channel]
  repeat' split
  all_goals rfl

theorem entryFlags_eq (s : State) (e : EntryId) : s.entryFlags e =
    (if (s.entry e).enabled then 0x01 else 0) + (if decide (51 ≤ e.val) then 0x02 else 0) +
      (if (s.entry e).latched then 0x04 else 0) +
      (if ((s.entry e).latch.bind Latch.detail).isSome then 0x08 else 0) +
      (if s.levelActive e then 0x10 else 0) +
      (if e ∈ s.priority.pending then 0x20 else if e ∈ s.routine.pending then 0x40
        else if e ∈ s.priority.inFlight then 0x60 else if e ∈ s.routine.inFlight then 0x80
        else 0x00) := by
  simp only [State.entryFlags, flagsByte_five, placeCode_byte, sessionClass]

theorem listed_eq_decide (s : State) (i : SlotId) :
    s.listed i = decide (i ∈ s.staging.shedList.map ShedPlace.slot) := by
  rw [Bool.eq_iff_iff, listed_iff, decide_eq_true_eq]

theorem slotFlags_eq (s : State) (i : SlotId) : s.slotFlags i =
    (if (s.lineSet i).present.level then 0x01 else 0) +
      (if decide (i ∈ s.staging.shedList.map ShedPlace.slot) then 0x02 else 0) +
      (if (s.slot i).deferredWake.isSome then 0x04 else 0) +
      (if (s.slot i).override then 0x08 else 0) + (if (s.slot i).fallback then 0x10 else 0) +
      (if (s.slot i).expiredOnce then 0x20 else 0) +
      (if (match (s.slot i).pendingSleep with
        | some p => p.verdictAwaited
        | none => false) then 0x40 else 0) +
      (if (s.slot i).buttonHold.isSome then 0x80 else 0) := by
  simp only [State.slotFlags, flagsByte_eight, listed_eq_decide, State.isPresent]
  cases (s.slot i).pendingSleep <;> rfl

/-- The off time is told as 0 while the rail is on; a driven RAILEN is a rail that is on (R51). -/
theorem offTime_word (s : State) (i : SlotId) :
    BitVec.ofNat 32 (if (s.slot i).state.railOn = true then 0 else (s.slot i).offTimer) =
      if (s.driven i).railEn = true ∨ (s.slot i).state.railOn = true then 0
      else BitVec.ofNat 32 (s.slot i).offTimer := by
  have hdriven : (s.driven i).railEn = true → (s.slot i).state.railOn = true := by
    unfold State.driven
    split
    · exact id
    · exact fun h => Bool.noConfusion h
  by_cases hon : (s.slot i).state.railOn = true
  · simp [hon]
  · simp [hon, mt hdriven hon]

/-- The queue origin is told in QUEUED alone (R54). -/
theorem queueOrigin_byte (l : LifeState) (o : Option QueuePlace) :
    (if l = .queued then ((o.map QueuePlace.origin).map fun o => o.cause.code).getD 0 else 0) =
      match l, o with
      | .queued, some p => p.origin.cause.code
      | _, _ => 0x00 := by
  cases o <;> cases l <;> rfl

theorem stageFlags_eq (s : State) : s.stageFlags =
    (if decide (s.staging.rail = .good) then 0x01 else 0) +
      (if s.staging.settleTimer.isSome then 0x02 else 0) +
      (if s.staging.firstReturn then 0x04 else 0) + (if s.board.therm.level then 0x08 else 0) +
      (if s.staging.shedEnable then 0x10 else 0) +
      (if decide (s.staging.restore ≠ .clear) then 0x20 else 0) := by
  have hgood : s.railGood = decide (s.staging.rail = .good) := by
    unfold State.railGood; cases s.staging.rail <;> rfl
  have hrestore : (s.staging.restore != .clear) = decide (s.staging.restore ≠ .clear) := by
    cases s.staging.restore <;> rfl
  simp only [State.stageFlags, flagsByte_six, State.hot, hgood, hrestore]

theorem powerUpSlot_byte (s : State) : slotOrNone s.powerUpSlot =
    match (List.finRange 6).find? (fun i =>
      decide (s.lifeOf i = .powering ∨ s.lifeOf i = .releasing)) with
    | some i => BitVec.ofNat 8 (i.val + 1)
    | none => 0x00 := by
  have hstates : ∀ l : LifeState, l.inPowerUp = decide (l = .powering ∨ l = .releasing) := by
    intro l; cases l <;> rfl
  simp only [slotOrNone, State.powerUpSlot, hstates]
  cases (List.finRange 6).find? fun i =>
    decide (s.lifeOf i = .powering ∨ s.lifeOf i = .releasing) <;> rfl

/-- Six pairs of slot and code, those beyond the list 00h 00h. -/
theorem sixPairs_map {α : Type} (l : List α) (f : α → SlotId × Byte) : sixPairs (l.map f) =
    (List.range 6).flatMap fun k =>
      (l.map fun a => [BitVec.ofNat 8 ((f a).1.val + 1), (f a).2])[k]?.getD [0x00, 0x00] := by
  unfold sixPairs
  congr 1
  funext k
  rw [List.getElem?_map, List.getElem?_map]
  cases l[k]? <;> rfl

/-- Settles O25: each request is a reading, the list of EVENT_LIST is in first-time order, the bits of INPUT_READ
are the levels, and each report is its layout byte by byte. -/
theorem readsChangeNothing : Obligations.ReadsChangeNothing := by
  refine ⟨fun s seq h => ⟨status_read h, fun first number => ⟨fun hin => ?_, fun hout => ?_⟩, ?_, ?_,
    fun b i hb => ?_, fun b hb => ?_, stageRead_read h, timerRead_read h⟩, fun s => ?_,
    fun s e l hl => firstTimeOf_of_latch hl, fun h => rfl, fun w => rfl, rfl, rfl, rfl, rfl, rfl, rfl,
    rfl, rfl, rfl, rfl, rfl, rfl, rfl⟩
  · exact exec_read (c := .eventRead) h rfl (eventRead_of_range s hin)
  · exact exec_request (c := .eventRead) h rfl (d := answer .badValue s)
      (eventRead_of_outside s hout)
  · obtain ⟨hordered, hmem⟩ := latchedByTime_spec s
    exact ⟨s.latchedByTime, eventList_read h, hmem, hordered⟩
  · refine ⟨_, _, fun i => (s.lineSet i).levels, inputRead_read h, fun n => ?_, fun n hn => ?_, ?_, ?_,
      fun n hn => ?_, fun i => ?_, fun i n hn => ?_⟩
    · rw [flagsHalf_getLsbD (by simp)]; simp
    · rw [flagsHalf_getLsbD (by simp), List.getElem?_eq_none (by simpa using hn)]; rfl
    · exact flagsByte_getLsbD (by decide)
    · exact flagsByte_getLsbD (by decide)
    · exact flagsByte_getLsbD_of_length hn
    · exact (map_getLsbD_flagsHalf (by simp)).symm
    · exact (flagsHalf_getLsbD (by simp) n).trans (by rw [List.getElem?_eq_none hn]; rfl)
  · exact exec_read (c := .slotRead) h rfl
      (by simp only [carryOut, slotRead, onSlot, slotField_of_number hb])
  · exact exec_request (c := .slotRead) h rfl (d := answer .badValue s)
      (by simp only [carryOut, slotRead, onSlot, slotField_of_outside hb])
  · intro one two four bit part block six
    refine ⟨?_, fun e => ?_, fun i => ?_, ?_, fun t => rfl⟩
    · simp only [State.statusReport, boolByte_railGood, Channel.block, leftIn_eq _ (Nat.le_add_left 1 99)]
      rfl
    · simp only [State.entryReport, entryFlags_eq, sourceKindCode_eq, latchCount_byte,
        latchTime_word]
      rfl
    · simp only [State.slotReport, slotFlags_eq, lastCause_byte]
      simp only [lastTime_word, step_byte, natWord, leftIn_eq _ (Nat.le_add_left 1 999),
        stepLeft_word, offTime_word, stateAtLoss_byte, State.queueOrigin, queueOrigin_byte,
        deferredWake_byte, sleepOrigin_byte, DrivenLines.flags, flagsByte_six]
      rfl
    · simp only [State.stageReport, stageFlags_eq, powerUpSlot_byte, restoreSlot_byte, sixPairs_map,
        leftIn_eq _ (Nat.le_add_left 1 999)]
      rfl

end Sys2Proof.Machine
end

section
/-! PROOF. The operations of the Notice Channels (R28, R30 to R33, R45): composition, the joins of a pending
list, and the end of a notice as one change of its channel with joins at the other. -/

namespace Sys2Proof.Machine

/-! ### Two channels, written one after the other -/

@[simp] theorem setChannel_setChannel (s : State) (c : ChannelId) (x y : Channel) :
    (s.setChannel c x).setChannel c y = s.setChannel c y := by cases c <;> rfl

theorem setChannel_comm (s : State) (c : ChannelId) (x y : Channel) :
    (s.setChannel c x).setChannel (otherChannel c) y =
      (s.setChannel (otherChannel c) y).setChannel c x := by cases c <;> rfl

theorem eq_or_eq_otherChannel (c d : ChannelId) : d = c ∨ d = otherChannel c := by
  cases c <;> cases d <;> decide

@[simp] theorem otherChannel_otherChannel (c : ChannelId) : otherChannel (otherChannel c) = c := by
  cases c <;> rfl

/-! ### Which channel an entry belongs to (R28) -/

theorem belongsTo_iff (s : State) (c : ChannelId) (e : EntryId) : s.belongsTo c e = true ↔
    (s.entry e).enabled = true ∧ (s.entry e).latched = true ∧
      (s.entry e).route.channel? = some c := by
  simp [State.belongsTo, and_assoc]

/-- What an entry belongs to is read from its own record alone. -/
theorem belongsTo_of_entry {s t : State} {e : EntryId} (h : t.entry e = s.entry e) (c : ChannelId) :
    t.belongsTo c e = s.belongsTo c e := by
  simp [State.belongsTo, h]

theorem belongsTo_of_entries {s t : State} (h : t.entries = s.entries) :
    t.belongsTo = s.belongsTo := by
  funext c e
  exact belongsTo_of_entry (entry_of_entries h e) c

@[simp] theorem belongsTo_setChannel (s : State) (c : ChannelId) (x : Channel) :
    (s.setChannel c x).belongsTo = s.belongsTo :=
  belongsTo_of_entries (State.setChannel_entries s c x)

/-! ### Composition (R30) -/

theorem compose_of_idle {c : ChannelId} {s : State} (h : (s.channel c).state = .idle)
    (hp : (s.channel c).pending ≠ []) :
    compose c s = s.setChannel c ((s.channel c).composed s.itemOf) := if_pos ⟨h, hp⟩

theorem compose_of_nothing {c : ChannelId} {s : State}
    (h : (s.channel c).state ≠ .idle ∨ (s.channel c).pending = []) : compose c s = s :=
  if_neg (by tauto)

/-- A composition reads its own channel and the table, and writes its own channel. -/
theorem compose_setChannel_other (c : ChannelId) (x : Channel) (s : State) :
    compose (otherChannel c) (s.setChannel c x) = (compose (otherChannel c) s).setChannel c x := by
  unfold compose
  rw [State.channel_setChannel_ne s x (otherChannel_ne c), itemOf_setChannel]
  split
  · exact setChannel_comm s c x _
  · rfl

/-! ### Entries that join a list one after the other -/

/-- Entries join the tail of a channel's list in their order. -/
def joinAll (c : ChannelId) (es : List EntryId) (s : State) : State :=
  es.foldl (fun s e => joinTail c e s) s

theorem joinAll_cons (c : ChannelId) (e : EntryId) (es : List EntryId) (s : State) :
    joinAll c (e :: es) s = joinAll c es (joinTail c e s) := rfl

theorem joinAll_channel_ne {c d : ChannelId} (es : List EntryId) (s : State) (h : d ≠ c) :
    (joinAll c es s).channel d = s.channel d :=
  foldl_keeps (State.channel · d) _ (fun s e => joinTail_channel_ne e s h) es s

@[simp] theorem joinAll_entries (c : ChannelId) (es : List EntryId) (s : State) :
    (joinAll c es s).entries = s.entries :=
  foldl_keeps State.entries _ (fun s e => joinTail_entries c e s) es s

@[simp] theorem joinAll_wakes (c : ChannelId) (es : List EntryId) (s : State) :
    (joinAll c es s).wakes = s.wakes :=
  foldl_keeps State.wakes _ (fun s e => joinTail_wakes c e s) es s

/-- A join reads its own channel and the table, and writes its own channel. -/
theorem joinTail_setChannel_other (c : ChannelId) (e : EntryId) (x : Channel) (s : State) :
    joinTail (otherChannel c) e (s.setChannel c x) =
      (joinTail (otherChannel c) e s).setChannel c x := by
  unfold joinTail
  rw [State.channel_setChannel_ne s x (otherChannel_ne c), setChannel_comm,
    compose_setChannel_other]

theorem joinAll_setChannel_other (c : ChannelId) (es : List EntryId) (x : Channel) (s : State) :
    joinAll (otherChannel c) es (s.setChannel c x) =
      (joinAll (otherChannel c) es s).setChannel c x := by
  induction es generalizing s with
  | nil => rfl
  | cons e es ih => rw [joinAll_cons, joinTail_setChannel_other, ih, joinAll_cons]

/-- At a channel that is not IDLE the joined entries stand at the tail in their order. -/
theorem joinAll_channel_of_not_idle {c : ChannelId} (es : List EntryId) {s : State}
    (h : (s.channel c).state ≠ .idle) : (joinAll c es s).channel c =
      { s.channel c with pending := (s.channel c).pending ++ es } := by
  induction es generalizing s with
  | nil => simp [joinAll]
  | cons e es ih =>
    have hjoin := joinTail_channel_of_not_idle e h
    rw [joinAll_cons, ih (by rwa [hjoin]), hjoin]
    simp

/-- An IDLE channel with an empty list composes with the first entry that joins; the others wait. -/
theorem joinAll_channel_of_idle {c : ChannelId} (e : EntryId) (es : List EntryId) {s : State}
    (h : (s.channel c).state = .idle) (hp : (s.channel c).pending = [])
    (hl : 1 ≤ (s.channel c).itemLimit) :
    ((joinAll c (e :: es) s).channel c).state = .offered ∧
      ((joinAll c (e :: es) s).channel c).inFlight = [e] ∧
      ((joinAll c (e :: es) s).channel c).pending = es := by
  have hjoin := joinTail_channel_of_idle e h
  have htake : List.take (s.channel c).itemLimit [e] = [e] := List.take_of_length_le hl
  have hdrop : List.drop (s.channel c).itemLimit [e] = [] := List.drop_of_length_le hl
  rw [joinAll_cons, joinAll_channel_of_not_idle es (by rw [hjoin]; simp [Channel.composed]), hjoin]
  simp [Channel.composed, hp, htake, hdrop]

/-! ### The end of a notice (R33, R34) -/

/-- A channel whose notice has ended in a state, with the entries that have come back to it. -/
def Channel.ended (ch : Channel) (target : ChannelState) (back : List EntryId) : Channel :=
  { ch with
    state := target
    pending := back ++ ch.pending
    inFlight := []
    items := []
    sendWaiting := false
    offerTimer := .stopped
    serviceTimer := none }

/-- The end of a notice is one change of its channel, and joins at the other channel (R33). -/
theorem endNotice_eq (c : ChannelId) (target : ChannelState) (s : State) : endNotice c target s =
    joinAll (otherChannel c) ((s.channel c).inFlight.filter (s.belongsTo (otherChannel c)))
      (s.setChannel c ((s.channel c).ended target
        ((s.channel c).inFlight.filter (s.belongsTo c)))) := by
  have hjoins : ∀ es (t : State), es.foldl (fun s e => joinTail (otherChannel c) e s) t =
    joinAll (otherChannel c) es t := fun _ _ => rfl
  unfold endNotice returnEntries
  simp only [State.channel_setChannel, belongsTo_setChannel, setChannel_setChannel, hjoins,
    joinAll_setChannel_other]
  rfl

theorem endNotice_channel (c : ChannelId) (target : ChannelState) (s : State) :
    (endNotice c target s).channel c =
      (s.channel c).ended target ((s.channel c).inFlight.filter (s.belongsTo c)) := by
  rw [endNotice_eq, joinAll_channel_ne _ _ (otherChannel_ne c).symm, State.channel_setChannel]

theorem endNotice_wakes (c : ChannelId) (target : ChannelState) (s : State) :
    (endNotice c target s).wakes = s.wakes := by
  rw [endNotice_eq, joinAll_wakes, State.setChannel_wakes]

end Sys2Proof.Machine
end

section
/-! PROOF. Composition and the notice frame (O33), and the end of a notice (O34). -/

namespace Sys2Proof.Machine

/-! ### A composed channel (R30, R31) -/

/-- A channel takes its item limit of entries into flight, or all it has (R30). -/
theorem composed_eq (ch : Channel) (itemOf : EntryId → NoticeItem) :
    let k := min ch.itemLimit ch.pending.length
    ch.composed itemOf = { ch with
      state := .offered
      pending := ch.pending.drop k
      inFlight := ch.pending.take k
      items := (ch.pending.take k).map itemOf
      remaining := ch.pending.length - k
      number := ch.number + 1
      retryCount := 0
      sendWaiting := true
      offerTimer := .waiting } := by
  intro k
  have htake : ch.pending.take k = ch.pending.take ch.itemLimit := List.take_eq_take_min.symm
  have hdrop : ch.pending.drop k = ch.pending.drop ch.itemLimit := List.drop_eq_drop_min.symm
  have hleft : ch.pending.length - k = (ch.pending.drop ch.itemLimit).length := by
    rw [← hdrop, List.length_drop]
  rw [htake, hdrop, hleft]
  rfl

/-- A latched entry is told as it stands (R31). -/
theorem itemOf_of_latch {s : State} {e : EntryId} {l : Latch} (h : (s.entry e).latch = some l) :
    s.itemOf e = { entry := e, count := l.count, firstTime := l.firstTime, detail := l.detail } := by
  simp only [State.itemOf, h]

/-- Settles O33: composition by its two conditions, the composed record, and the frame's layout. -/
theorem compositionTakesTheFirstEntries : Obligations.CompositionTakesTheFirstEntries := by
  intro s c ch k
  refine ⟨compose_of_nothing, compose_of_idle, composed_eq ch, fun e l hl => itemOf_of_latch hl, ?_,
    fun e count time detail => ?_⟩
  · cases c <;> rfl
  · cases detail <;> rfl

/-! ### The end of a notice (R33) -/

theorem channel?_eq_some_iff (r : Route) (c : ChannelId) : r.channel? = some c ↔
    r = (match c with | .priority => .priority | .routine => .routine) := by
  cases r <;> cases c <;> decide

/-- Settles O34, from the end of a notice as one change of its channel with joins at the other. -/
theorem returnedEntriesGoToTheFront : Obligations.ReturnedEntriesGoToTheFront := by
  refine ⟨fun s c e => ?_, fun s c target => ?_⟩
  · rw [belongsTo_iff, channel?_eq_some_iff]
    exact and_left_comm
  · intro ch o t across
    have hjoins : t.channel o = (joinAll o across (s.setChannel c (ch.ended target
        (ch.inFlight.filter (s.belongsTo c))))).channel o :=
      congrArg (State.channel · o) (endNotice_eq c target s)
    have hother : ∀ x : Channel, (s.setChannel c x).channel o = s.channel o := fun x =>
      State.channel_setChannel_ne s x (otherChannel_ne c)
    refine ⟨endNotice_channel c target s, fun hstate => ?_, fun hnone => ?_,
      fun e rest hstate hempty hlimit hacross => ?_, endNotice_entries c target s,
      endNotice_slots c target s, endNotice_staging c target s, endNotice_wakes c target s,
      endNotice_outside c target s⟩
    · rw [hjoins, joinAll_channel_of_not_idle across (by rwa [hother]), hother]
    · rw [hjoins, hnone]
      exact hother _
    · rw [hjoins, hacross]
      exact joinAll_channel_of_idle e rest (by rwa [hother]) (by rwa [hother]) (by rwa [hother])

end Sys2Proof.Machine
end

section
/-! PROOF. The places of the entries (R28, R29, R42): each entry in at most one list, each list with its own,
and the in-flight sets with their channels' states, kept by every primitive change of State (O13). -/

namespace Sys2Proof.Machine

/-! ### One channel -/

/-- The entries that stand in a channel's list or in its in-flight set. -/
def Channel.places (ch : Channel) : List EntryId := ch.pending ++ ch.inFlight

/-- What `State.placesAgree` asks of one channel, where `belongs` tells which entries are the channel's. -/
structure Channel.Agrees (ch : Channel) (belongs : EntryId → Bool) : Prop where
  once : ch.places.Nodup
  held : ∀ e ∈ ch.pending, belongs e = true
  limited : 1 ≤ ch.itemLimit ∧ ch.itemLimit ≤ 12
  outstanding : ch.inFlight ≠ [] ↔ ch.state.outstanding = true
  fits : ch.inFlight.length ≤ ch.itemLimit

theorem mem_places {ch : Channel} {e : EntryId} :
    e ∈ ch.places ↔ e ∈ ch.pending ∨ e ∈ ch.inFlight := List.mem_append

theorem outstanding_iff (l : ChannelState) :
    l.outstanding = true ↔ l = .offered ∨ l = .servicing := by
  cases l <;> simp [ChannelState.outstanding]

/-- The words of `State.placesAgree`, channel by channel. -/
theorem placesAgree_iff (s : State) : s.placesAgree ↔
    (∀ c, (s.channel c).Agrees (s.belongsTo c)) ∧
      ∀ c, ∀ e ∈ (s.channel c).places, e ∉ (s.channel (otherChannel c)).places := by
  have hplaces : (s.priority.pending ++ s.priority.inFlight ++ s.routine.pending ++
      s.routine.inFlight).Nodup ↔ s.priority.places.Nodup ∧ s.routine.places.Nodup ∧
        s.priority.places.Disjoint s.routine.places := by
    rw [List.append_assoc, List.nodup_append']
    rfl
  unfold State.placesAgree
  rw [hplaces]
  constructor
  · rintro ⟨⟨hp, hr, hapart⟩, hch⟩
    refine ⟨fun c => ?_, fun c => ?_⟩
    · obtain ⟨hheld, hlimited, hout, hfits⟩ := hch c
      refine ⟨?_, hheld, hlimited, hout.trans (outstanding_iff _).symm, hfits⟩
      cases c
      · exact hp
      · exact hr
    · cases c
      · exact fun e hp hr => hapart hp hr
      · exact fun e hr hp => hapart hp hr
  · rintro ⟨hch, hapart⟩
    refine ⟨⟨(hch .priority).once, (hch .routine).once, hapart .priority⟩, fun c => ?_⟩
    obtain ⟨-, hheld, hlimited, hout, hfits⟩ := hch c
    exact ⟨hheld, hlimited, hout.trans (outstanding_iff _), hfits⟩

/-- A channel with no notice outstanding has nothing in flight (R29). -/
theorem Channel.Agrees.inFlight_eq_nil {ch : Channel} {belongs : EntryId → Bool}
    (h : ch.Agrees belongs) (hs : ch.state.outstanding = false) : ch.inFlight = [] := by
  by_contra hne
  have hout := h.outstanding.mp hne
  rw [hs] at hout
  cases hout

/-- What agrees goes on to agree when no pending entry ceases to belong. -/
theorem Channel.Agrees.of_belongs {ch : Channel} {before after : EntryId → Bool}
    (h : ch.Agrees before) (hb : ∀ e ∈ ch.pending, before e = true → after e = true) :
    ch.Agrees after :=
  ⟨h.once, fun e he => hb e he (h.held e he), h.limited, h.outstanding, h.fits⟩

/-- A change of a channel that keeps its list and its in-flight set; the item limit moves only while no
notice is outstanding (R42). -/
theorem Channel.Agrees.of_lists {ch x : Channel} {belongs : EntryId → Bool} (h : ch.Agrees belongs)
    (hp : x.pending = ch.pending) (hf : x.inFlight = ch.inFlight)
    (hs : x.state.outstanding = ch.state.outstanding)
    (hl : x.itemLimit = ch.itemLimit ∨
      (x.state.outstanding = false ∧ 1 ≤ x.itemLimit ∧ x.itemLimit ≤ 12)) : x.Agrees belongs := by
  have hout : x.inFlight ≠ [] ↔ x.state.outstanding = true := by
    rw [hf, hs]; exact h.outstanding
  refine ⟨by simpa only [Channel.places, hp, hf] using h.once, by rw [hp]; exact h.held, ?_, hout, ?_⟩
  · rcases hl with hl | ⟨-, hl⟩
    · rw [hl]; exact h.limited
    · exact hl
  · rcases hl with hl | ⟨hidle, -⟩
    · rw [hl, hf]; exact h.fits
    · rw [hf, h.inFlight_eq_nil (hs ▸ hidle)]; exact Nat.zero_le _

/-- An entry that belongs and stands nowhere at the channel joins the tail of its list. -/
theorem Channel.Agrees.join {ch : Channel} {belongs : EntryId → Bool} {e : EntryId}
    (h : ch.Agrees belongs) (hb : belongs e = true) (he : e ∉ ch.places) :
    ({ ch with pending := ch.pending ++ [e] } : Channel).Agrees belongs := by
  have hperm : (ch.pending ++ [e] ++ ch.inFlight).Perm (e :: ch.places) := by
    rw [List.append_assoc]
    exact List.perm_middle
  refine ⟨hperm.nodup_iff.mpr (List.nodup_cons.mpr ⟨he, h.once⟩), fun x hx => ?_, h.limited,
    h.outstanding, h.fits⟩
  rcases List.mem_append.mp hx with hx | hx
  · exact h.held x hx
  · rw [List.mem_singleton.mp hx]; exact hb

/-- An IDLE channel with entries composes: what it takes into flight is its own, and not more than its item
limit (R30). -/
theorem Channel.Agrees.composed {ch : Channel} {belongs : EntryId → Bool}
    {itemOf : EntryId → NoticeItem} (h : ch.Agrees belongs) (hs : ch.state = .idle)
    (hp : ch.pending ≠ []) : (ch.composed itemOf).Agrees belongs := by
  have hflight : ch.inFlight = [] := h.inFlight_eq_nil (by rw [hs]; rfl)
  have hperm : (ch.composed itemOf).places.Perm ch.places := by
    have hsplit := List.perm_append_comm (l₁ := ch.pending.drop ch.itemLimit)
      (l₂ := ch.pending.take ch.itemLimit)
    rw [List.take_append_drop] at hsplit
    simpa [Channel.places, Channel.composed, hflight] using hsplit
  have htaken : ch.pending.take ch.itemLimit ≠ [] := by
    have hlimit := h.limited.1
    rw [Ne, List.take_eq_nil_iff]
    rintro (h0 | hnil)
    · omega
    · exact hp hnil
  exact ⟨hperm.nodup_iff.mpr h.once, fun e he => h.held e (List.mem_of_mem_drop he), h.limited,
    iff_of_true htaken rfl, List.length_take_le _ _⟩

/-- An entry that leaves a list takes nothing else with it, and may cease to belong (R16, R19). -/
theorem Channel.Agrees.without {ch : Channel} {before after : EntryId → Bool} {e : EntryId}
    (h : ch.Agrees before) (hb : ∀ x, x ≠ e → after x = before x) :
    (ch.without e).Agrees after := by
  refine ⟨h.once.sublist (List.filter_sublist.append_right _), fun x hx => ?_, h.limited,
    h.outstanding, h.fits⟩
  obtain ⟨hx, hne⟩ := List.mem_filter.mp hx
  rw [hb x (by simpa using hne)]
  exact h.held x hx

/-- The end of a notice: entries that belong come from the in-flight set to the front of the list. -/
theorem Channel.Agrees.ended {ch : Channel} {belongs : EntryId → Bool} {target : ChannelState}
    (h : ch.Agrees belongs) (ht : target.outstanding = false) :
    (ch.ended target (ch.inFlight.filter belongs)).Agrees belongs := by
  have honce : (ch.inFlight.filter belongs ++ ch.pending).Nodup :=
    (List.perm_append_comm.nodup_iff.mpr h.once).sublist (List.filter_sublist.append_right _)
  refine ⟨by simpa [Channel.places, Channel.ended] using honce, fun e he => ?_, h.limited,
    by simp [Channel.ended, ht], Nat.zero_le _⟩
  rcases List.mem_append.mp he with he | he
  · exact (List.mem_filter.mp he).2
  · exact h.held e he

/-! ### The places after each operation -/

theorem mem_places_composed {ch : Channel} {itemOf : EntryId → NoticeItem} {e : EntryId}
    (h : e ∈ (ch.composed itemOf).places) : e ∈ ch.places := by
  refine mem_places.mpr (.inl ?_)
  rcases mem_places.mp h with h | h
  · exact List.mem_of_mem_drop h
  · exact List.mem_of_mem_take h

theorem mem_places_without {ch : Channel} {e x : EntryId} (h : x ∈ (ch.without e).places) :
    x ∈ ch.places := by
  rcases mem_places.mp h with h | h
  · exact mem_places.mpr (.inl (List.mem_filter.mp h).1)
  · exact mem_places.mpr (.inr h)

theorem mem_places_ended {ch : Channel} {target : ChannelState} {p : EntryId → Bool} {e : EntryId}
    (h : e ∈ (ch.ended target (ch.inFlight.filter p)).places) :
    e ∈ ch.pending ∨ e ∈ ch.inFlight ∧ p e = true := by
  simp only [mem_places, Channel.ended, List.mem_append, List.mem_filter, List.not_mem_nil,
    or_false] at h
  exact h.symm

/-- A composition brings no entry to a channel. -/
theorem mem_places_of_compose {c d : ChannelId} {s : State} {e : EntryId}
    (h : e ∈ ((compose c s).channel d).places) : e ∈ (s.channel d).places := by
  unfold compose at h
  split at h
  · by_cases hd : d = c
    · subst hd
      rw [State.channel_setChannel] at h
      exact mem_places_composed h
    · rwa [State.channel_setChannel_ne s _ hd] at h
  · exact h

/-- A join brings its entry to its channel, and no other. -/
theorem mem_places_of_joinTail {c d : ChannelId} {s : State} {e x : EntryId}
    (h : x ∈ ((joinTail c e s).channel d).places) :
    x ∈ (s.channel d).places ∨ (d = c ∧ x = e) := by
  have hx := mem_places_of_compose h
  by_cases hd : d = c
  · subst hd
    rw [State.channel_setChannel] at hx
    simp only [mem_places, List.mem_append, List.mem_singleton] at hx ⊢
    tauto
  · rw [State.channel_setChannel_ne s _ hd] at hx
    exact .inl hx

end Sys2Proof.Machine
end

section
/-! PROOF. Every primitive change of State keeps the places of the entries (O13). -/

namespace Sys2Proof.Machine

/-! ### Changes outside the lists -/

/-- The places of the entries are read from the table and the channels alone. -/
theorem placesAgree_of_frame {s t : State} (h : s.placesAgree) (he : t.entries = s.entries)
    (hp : t.priority = s.priority) (hr : t.routine = s.routine) : t.placesAgree := by
  rw [placesAgree_iff] at h ⊢
  simpa only [channel_of_channels hp hr, belongsTo_of_entries he] using h

/-- A change of the table under which no pending entry ceases to belong. -/
theorem placesAgree_of_belongs {s t : State} (h : s.placesAgree)
    (hc : ∀ c, t.channel c = s.channel c)
    (hb : ∀ c, ∀ e ∈ (s.channel c).pending, s.belongsTo c e = true → t.belongsTo c e = true) :
    t.placesAgree := by
  rw [placesAgree_iff] at h ⊢
  obtain ⟨hagrees, hapart⟩ := h
  simp only [hc]
  exact ⟨fun c => (hagrees c).of_belongs (hb c), hapart⟩

/-- A change of one channel whose new places are not at the other channel. -/
theorem placesAgree_setChannel {s : State} {c : ChannelId} {x : Channel} (h : s.placesAgree)
    (hx : x.Agrees (s.belongsTo c))
    (hnew : ∀ e ∈ x.places, e ∉ (s.channel (otherChannel c)).places) :
    (s.setChannel c x).placesAgree := by
  rw [placesAgree_iff] at h ⊢
  obtain ⟨hagrees, -⟩ := h
  have hself := State.channel_setChannel s c x
  have hother := State.channel_setChannel_ne s x (otherChannel_ne c)
  rw [belongsTo_setChannel]
  refine ⟨fun d => ?_, fun d e he => ?_⟩
  · rcases eq_or_eq_otherChannel c d with rfl | rfl
    · rwa [hself]
    · rw [hother]; exact hagrees _
  · rcases eq_or_eq_otherChannel c d with rfl | rfl
    · rw [hself] at he; rw [hother]; exact hnew e he
    · rw [hother] at he; rw [otherChannel_otherChannel, hself]; exact fun hin => hnew e hin he

/-- A change of one channel that brings no entry to it. -/
theorem placesAgree_setChannel_of_subset {s : State} {c : ChannelId} {x : Channel}
    (h : s.placesAgree) (hx : x.Agrees (s.belongsTo c))
    (hsub : ∀ e ∈ x.places, e ∈ (s.channel c).places) : (s.setChannel c x).placesAgree :=
  placesAgree_setChannel h hx fun e he => ((placesAgree_iff s).mp h).2 c e (hsub e he)

theorem agrees_of_placesAgree {s : State} (h : s.placesAgree) (c : ChannelId) :
    (s.channel c).Agrees (s.belongsTo c) := ((placesAgree_iff s).mp h).1 c

theorem not_mem_other_places {s : State} (h : s.placesAgree) {c : ChannelId} {e : EntryId}
    (he : e ∈ (s.channel c).places) : e ∉ (s.channel (otherChannel c)).places :=
  ((placesAgree_iff s).mp h).2 c e he

/-! ### Composition and joins (R28, R30) -/

theorem placesAgree_compose {s : State} (c : ChannelId) (h : s.placesAgree) :
    (compose c s).placesAgree := by
  unfold compose
  split
  · rename_i hc
    obtain ⟨hidle, hpending⟩ := hc
    exact placesAgree_setChannel_of_subset h ((agrees_of_placesAgree h c).composed hidle hpending)
      fun e he => mem_places_composed he
  · exact h

theorem placesAgree_joinTail {s : State} {c : ChannelId} {e : EntryId} (h : s.placesAgree)
    (hb : s.belongsTo c e = true) (he : ∀ d, e ∉ (s.channel d).places) :
    (joinTail c e s).placesAgree := by
  refine placesAgree_compose c (placesAgree_setChannel h ((agrees_of_placesAgree h c).join hb (he c))
    fun x hx => ?_)
  simp only [mem_places, List.mem_append, List.mem_singleton] at hx
  rcases hx with (hx | rfl) | hx
  · exact not_mem_other_places h (mem_places.mpr (.inl hx))
  · exact he _
  · exact not_mem_other_places h (mem_places.mpr (.inr hx))

theorem placesAgree_joinAll {c : ChannelId} {es : List EntryId} (hes : es.Nodup) {s : State}
    (h : s.placesAgree) (hb : ∀ e ∈ es, s.belongsTo c e = true)
    (he : ∀ e ∈ es, ∀ d, e ∉ (s.channel d).places) : (joinAll c es s).placesAgree := by
  induction es generalizing s with
  | nil => exact h
  | cons a es ih =>
    obtain ⟨ha, hes⟩ := List.nodup_cons.mp hes
    rw [joinAll_cons]
    refine ih hes (placesAgree_joinTail h (hb a (by simp)) (he a (by simp))) (fun e hin => ?_)
      fun e hin d hplace => ?_
    · rw [belongsTo_of_entries (joinTail_entries c a s)]
      exact hb e (by simp [hin])
    · rcases mem_places_of_joinTail hplace with hplace | ⟨-, rfl⟩
      · exact he e (by simp [hin]) d hplace
      · exact ha hin

/-- No entry belongs to both channels. -/
theorem belongsTo_other {s : State} {c : ChannelId} {e : EntryId} (h : s.belongsTo c e = true) :
    s.belongsTo (otherChannel c) e = false := by
  obtain ⟨-, -, hroute⟩ := (belongsTo_iff s c e).mp h
  rw [Bool.eq_false_iff, Ne, belongsTo_iff, hroute]
  rintro ⟨-, -, hsame⟩
  exact otherChannel_ne c (Option.some.inj hsame).symm

/-- An entry that an occurrence may bring to its list belongs there and stands nowhere else (R9, R10). -/
theorem placesAgree_joinIfUnplaced {s : State} {e : EntryId} (h : s.placesAgree)
    (henabled : (s.entry e).enabled = true) (hlatched : (s.entry e).latched = true) :
    (joinIfUnplaced e s).placesAgree := by
  unfold joinIfUnplaced
  split
  · rename_i c hroute
    have hbelongs : s.belongsTo c e = true := (belongsTo_iff s c e).mpr ⟨henabled, hlatched, hroute⟩
    split
    · exact h
    · rename_i hunplaced
      rw [Bool.or_eq_true, not_or, inFlight_iff, not_or, pendingIn_iff] at hunplaced
      obtain ⟨⟨hpriority, hroutine⟩, hpending⟩ := hunplaced
      refine placesAgree_joinTail h hbelongs fun d hd => ?_
      rcases mem_places.mp hd with hd | hd
      · rcases eq_or_eq_otherChannel c d with rfl | rfl
        · exact hpending hd
        · have hthere := (agrees_of_placesAgree h (otherChannel c)).held e hd
          rw [belongsTo_other hbelongs] at hthere
          cases hthere
      · cases d
        · exact hpriority hd
        · exact hroutine hd
  · exact h

/-! ### The Event Table (R9, R10, R16, R19) -/

theorem belongsTo_replaceEntry_ne {e e' : EntryId} (x : Entry) (s : State) (h : e' ≠ e)
    (c : ChannelId) : (replaceEntry e x s).belongsTo c e' = s.belongsTo c e' :=
  belongsTo_of_entry (replaceEntry_entry_ne x s h) c

/-- An occurrence takes no entry from the list it belongs to. -/
theorem placesAgree_record {s : State} (e : EntryId) (d : Option Half) (h : s.placesAgree) :
    (replaceEntry e ((s.entry e).record s.uptime d) s).placesAgree := by
  obtain ⟨henabled, -, hroute, -⟩ := record_configuration (s.entry e) s.uptime d
  refine placesAgree_of_belongs h (fun c => replaceEntry_channel e _ s c) fun c e' _ hb => ?_
  by_cases he : e' = e
  · subst he
    obtain ⟨hon, -, hthere⟩ := (belongsTo_iff s c e').mp hb
    rw [belongsTo_iff, replaceEntry_entry, henabled, hroute, record_latched]
    exact ⟨hon, rfl, hthere⟩
  · rwa [belongsTo_replaceEntry_ne _ s he]

theorem placesAgree_occur {s : State} (e : EntryId) (d : Option Half) (h : s.placesAgree) :
    (occur e d s).placesAgree := by
  obtain ⟨henabled, -⟩ := record_configuration (s.entry e) s.uptime d
  have hrecorded := placesAgree_record e d h
  unfold occur
  extract_lets recorded
  split
  · rename_i hon
    have hentry : recorded.entry e = (s.entry e).record s.uptime d := replaceEntry_entry _ _ _
    exact placesAgree_of_frame (placesAgree_joinIfUnplaced hrecorded
      (by rw [hentry, henabled, hon]) (by rw [hentry, record_latched])) rfl rfl rfl
  · exact hrecorded

/-- An entry leaves both lists, and may cease to belong to either. -/
theorem placesAgree_dropPending {s t : State} {e : EntryId} (h : s.placesAgree)
    (hc : ∀ c, t.channel c = s.channel c)
    (hb : ∀ c e', e' ≠ e → t.belongsTo c e' = s.belongsTo c e') : (dropPending e t).placesAgree := by
  have hbelongs : (dropPending e t).belongsTo = t.belongsTo := belongsTo_of_entries rfl
  rw [placesAgree_iff]
  simp only [dropPending_channel, hc, hbelongs]
  exact ⟨fun c => (agrees_of_placesAgree h c).without (hb c), fun c x hx hother =>
    not_mem_other_places h (mem_places_without hx) (mem_places_without hother)⟩

theorem placesAgree_clearEntry {s : State} (e : EntryId) (h : s.placesAgree) :
    (clearEntry e s).placesAgree := by
  unfold clearEntry
  split
  · exact h
  · exact placesAgree_dropPending h (fun c => replaceEntry_channel e _ s c)
      fun c e' he => belongsTo_replaceEntry_ne _ s he c

/-- The move of an entry's pending place makes good what a change of its record has put out of order (R19,
step 2). -/
theorem placesAgree_replace {s : State} (e : EntryId) (x : Entry) (h : s.placesAgree) :
    (replace e (replaceEntry e x s)).placesAgree := by
  have hchannel : ∀ c, (replaceEntry e x s).channel c = s.channel c :=
    fun c => replaceEntry_channel e x s c
  have hdropped : (dropPending e (replaceEntry e x s)).placesAgree :=
    placesAgree_dropPending h hchannel fun c e' he => belongsTo_replaceEntry_ne x s he c
  by_cases hwanted : ∃ c, wantsPlace (replaceEntry e x s) e c
  · obtain ⟨c, hc⟩ := hwanted
    rw [replace_of_wanted hc]
    obtain ⟨hon, hlatched, hpriority, hroutine, hroute⟩ := hc
    have hbelongs : (replaceEntry e x s).belongsTo c e = true :=
      (belongsTo_iff _ c e).mpr ⟨hon, hlatched, hroute⟩
    split
    · rename_i hpending
      rw [pendingIn_iff, hchannel] at hpending
      refine placesAgree_of_belongs h hchannel fun d e' he' hb => ?_
      by_cases he : e' = e
      · subst he
        rcases eq_or_eq_otherChannel c d with rfl | rfl
        · exact hbelongs
        · exact absurd (mem_places.mpr (.inl he'))
            (not_mem_other_places h (mem_places.mpr (.inl hpending)))
      · rwa [belongsTo_replaceEntry_ne x s he]
    · refine placesAgree_joinTail hdropped
        (by rwa [belongsTo_of_entries (t := dropPending e _) rfl]) fun d hd => ?_
      rw [dropPending_channel] at hd
      rcases mem_places.mp hd with hd | hd
      · simp [Channel.without] at hd
      · cases d
        · exact hpriority hd
        · exact hroutine hd
  · rw [replace_of_unwanted fun c hc => hwanted ⟨c, hc⟩]
    exact hdropped

theorem placesAgree_reconfigure {s : State} (e : EntryId) (new : Entry) (h : s.placesAgree) :
    (reconfigure e new s).placesAgree := by
  have hplaced := placesAgree_replace e { new with latch := (s.entry e).latch } h
  unfold reconfigure
  extract_lets placed
  split
  · exact placesAgree_occur e none hplaced
  · exact hplaced

/-! ### Slots -/

theorem placesAgree_enter {s : State} (i : SlotId) (target : LifeState) (cause : Cause)
    (step : Option StepTimer) (h : s.placesAgree) : (enter i target cause step s).placesAgree := by
  unfold enter
  extract_lets before moved told
  have htold : told.placesAgree := placesAgree_of_frame h rfl rfl rfl
  split
  · exact placesAgree_occur _ _ htold
  · exact htold

/-! ### Notices (R33) and restarts (R50) -/

theorem placesAgree_endNotice {s : State} (c : ChannelId) {target : ChannelState} (h : s.placesAgree)
    (ht : target.outstanding = false) : (endNotice c target s).placesAgree := by
  have hch := agrees_of_placesAgree h c
  obtain ⟨-, hflight, hdisjoint⟩ := List.nodup_append'.mp hch.once
  rw [endNotice_eq]
  refine placesAgree_joinAll (hflight.filter _) (placesAgree_setChannel_of_subset h (hch.ended ht)
    fun e he => ?_) (fun e he => ?_) fun e he d hd => ?_
  · exact mem_places.mpr ((mem_places_ended he).imp_right And.left)
  · rw [belongsTo_setChannel]
    exact (List.mem_filter.mp he).2
  · obtain ⟨hin, hacross⟩ := List.mem_filter.mp he
    rcases eq_or_eq_otherChannel c d with rfl | rfl
    · rw [State.channel_setChannel] at hd
      rcases mem_places_ended hd with hpending | ⟨-, hback⟩
      · exact hdisjoint hpending hin
      · rw [belongsTo_other hback] at hacross
        cases hacross
    · rw [State.channel_setChannel_ne s _ (otherChannel_ne c)] at hd
      exact not_mem_other_places h (mem_places.mpr (.inr hin)) hd

/-- The rebuilt list of a channel holds the entries that belong to it, each once (R50). -/
theorem rebuiltList_spec (s : State) (c : ChannelId) : (s.rebuiltList c).Nodup ∧
    ∀ e, e ∈ s.rebuiltList c ↔ s.belongsTo c e = true := by
  obtain ⟨hordered, hmem⟩ := foldl_insertByTime (s := s) (sorted := []) .nil
    ((List.pairwise_lt_finRange 60).filter (s.belongsTo c)) (by simp)
  refine ⟨hordered.imp fun {a b} hearlier heq => ?_, fun e => (hmem e).trans (by simp)⟩
  subst heq
  rcases hearlier with hlt | ⟨-, hlt⟩ <;> exact absurd hlt (by simp)

/-- A restarted channel holds its rebuilt list alone (R49, R50). -/
theorem Channel.Agrees.restarted {s : State} {c : ChannelId} {ch : Channel}
    {belongs : EntryId → Bool} (h : ch.Agrees belongs) :
    (ch.restarted (s.rebuiltList c)).Agrees (s.belongsTo c) := by
  obtain ⟨honce, hmem⟩ := rebuiltList_spec s c
  exact ⟨by simpa [Channel.places, Channel.restarted] using honce, fun e he => (hmem e).mp he,
    h.limited, by simp [Channel.restarted, ChannelState.outstanding], Nat.zero_le _⟩

theorem restartChannels_channel (s : State) (c : ChannelId) : (restartChannels s).channel c =
    (s.channel c).restarted (s.rebuiltList c) := by cases c <;> rfl

theorem placesAgree_restartChannels {s : State} (h : s.placesAgree) :
    (restartChannels s).placesAgree := by
  have hbelongs : (restartChannels s).belongsTo = s.belongsTo := belongsTo_of_entries rfl
  have hplaces : ∀ c e, e ∈ ((s.channel c).restarted (s.rebuiltList c)).places →
      s.belongsTo c e = true := fun c e he =>
    ((rebuiltList_spec s c).2 e).mp (by simpa [Channel.places, Channel.restarted] using he)
  rw [placesAgree_iff]
  simp only [restartChannels_channel, hbelongs]
  refine ⟨fun c => (agrees_of_placesAgree h c).restarted, fun c e he hother => ?_⟩
  have hnot := belongsTo_other (hplaces c e he)
  rw [hplaces _ e hother] at hnot
  cases hnot

/-- After a cold start nothing stands in any list (R48). -/
theorem placesAgree_coldStart (reason : RestartReason) (s : State) :
    (coldStart reason s).placesAgree := by
  refine ⟨by simp [coldStart, State.coldStarted, Channel.coldStart], fun c => ?_⟩
  rw [coldStart, coldStarted_channel]
  simp [Channel.coldStart]

/-- A count of the time base moves no entry (R135). -/
theorem placesAgree_counted {s : State} (h : s.placesAgree) : s.counted.placesAgree := by
  have hchannel : ∀ c, s.counted.channel c = (s.channel c).counted := fun c => by cases c <;> rfl
  have hbelongs : s.counted.belongsTo = s.belongsTo := belongsTo_of_entries rfl
  rw [placesAgree_iff]
  simp only [hchannel, hbelongs]
  exact ⟨fun c => (agrees_of_placesAgree h c).of_lists rfl rfl rfl (.inl rfl),
    ((placesAgree_iff s).mp h).2⟩

/-- The primitive changes of State keep the places of the entries. -/
theorem closed_placesAgree : Closed State.placesAgree where
  inside h he hp hr _ _ _ _ _ := placesAgree_of_frame h he hp hr
  staging h _ _ _ _ := placesAgree_of_frame h rfl rfl rfl
  unlist h := placesAgree_of_frame h rfl rfl rfl
  emptied h _ _ _ _ := placesAgree_of_frame h rfl rfl rfl
  returned h _ := placesAgree_of_frame h rfl rfl rfl
  slot h _ _ _ _ _ := placesAgree_of_frame h rfl rfl rfl
  slots h _ := placesAgree_of_frame h rfl rfl rfl
  hold h := placesAgree_of_frame h rfl rfl rfl
  unhold h _ := placesAgree_of_frame h rfl rfl rfl
  discard h := placesAgree_of_frame h rfl rfl rfl
  counted h := placesAgree_counted h
  cold _ := placesAgree_coldStart _ _
  enter h _ _ _ _ _ := placesAgree_enter _ _ _ _ h
  release h _ _ _ := placesAgree_enter _ _ _ _ h
  enqueue h _ _ _ _ := placesAgree_of_frame (placesAgree_enter _ _ _ _ h) rfl rfl rfl
  shed h _ _ _ := placesAgree_enter _ _ _ _ (placesAgree_of_frame h rfl rfl rfl)
  override h := placesAgree_enter _ _ _ _ (placesAgree_of_frame h rfl rfl rfl)
  occur h := placesAgree_occur _ _ h
  clearEntry h := placesAgree_clearEntry _ h
  reconfigure h := placesAgree_reconfigure _ _ h
  channel {_ c _} h hp hf hs hl := placesAgree_setChannel_of_subset h
    ((agrees_of_placesAgree h c).of_lists hp hf hs hl)
    fun e he => by simpa only [Channel.places, hp, hf] using he
  compose h := placesAgree_compose _ h
  endNotice h ht := placesAgree_endNotice _ h ht
  restart h := placesAgree_restartChannels h

/-- Settles O13: the places of the entries are closed under every primitive change of State, and so under
every step. -/
theorem listsHoldTheirEntries : Obligations.ListsHoldTheirEntries :=
  fun _ _ hs ht => closed_placesAgree.step id hs ht

end Sys2Proof.Machine
end

section
/-! PROOF. The channel requests (R37 to R39, R42, R43), state by state: O35 to O37. -/

namespace Sys2Proof.Machine

/-- A request of the right length at a ready part that its owner answers with a result alone. -/
theorem exec_answer {c : ReqCode} {seq b : Byte} {args : List Byte} {s t : State} {r : Result}
    (h : s.ready seq) (hl : args.length + 1 = c.length) (hd : carryOut c args s = answer r t)
    (hr : r.code = b) : exec (requestCommand c seq args) s = .next (t.answered seq [b]) := by
  rw [exec_request h hl hd, answer, hr]

/-! ### The fields of the channel requests -/

theorem channelField_code (c : ChannelId) : channelField (channelCode c) = some c := by
  cases c <;> rfl

theorem channelField_of_outside {b : Byte} (h1 : b ≠ 1) (h2 : b ≠ 2) : channelField b = none := by
  unfold channelField
  split
  · rename_i hb; exact absurd (BitVec.eq_of_toNat_eq hb) h1
  · rename_i hb; exact absurd (BitVec.eq_of_toNat_eq hb) h2
  · rfl

theorem rangeField_of_range {lo hi n : Nat} (h : lo ≤ n ∧ n ≤ hi) : rangeField lo hi n = some n :=
  if_pos h

theorem rangeField_of_outside {lo hi n : Nat} (h : ¬ (lo ≤ n ∧ n ≤ hi)) :
    rangeField lo hi n = none := if_neg h

/-! ### CHANNEL_OPEN (R42) -/

/-- A channel with no notice outstanding takes the parameters and is IDLE. -/
theorem channelOpen_of_free {s : State} {c : ChannelId} {limit retries : Byte} (service : Byte)
    (hlimit : 1 ≤ limit.toNat ∧ limit.toNat ≤ 12) (hretries : retries.toNat ≤ 7)
    (hs : (s.channel c).state = .closed ∨ (s.channel c).state = .stalled ∨
      (s.channel c).state = .idle) :
    channelOpen [channelCode c, limit, retries, service] s =
      answer .done (compose c (s.setChannel c { s.channel c with
        state := .idle
        itemLimit := limit.toNat
        retries := retries.toNat
        serviceLimit := service.toNat })) := by
  simp only [channelOpen, channelField_code, rangeField_of_range hlimit,
    rangeField_of_range (lo := 0) ⟨Nat.zero_le _, hretries⟩]
  rcases hs with hs | hs | hs <;> simp only [hs]

theorem channelOpen_of_outstanding {s : State} {c : ChannelId} {limit retries : Byte}
    (service : Byte) (hlimit : 1 ≤ limit.toNat ∧ limit.toNat ≤ 12) (hretries : retries.toNat ≤ 7)
    (hs : (s.channel c).state = .offered ∨ (s.channel c).state = .servicing) :
    channelOpen [channelCode c, limit, retries, service] s = answer .busy s := by
  simp only [channelOpen, channelField_code, rangeField_of_range hlimit,
    rangeField_of_range (lo := 0) ⟨Nat.zero_le _, hretries⟩]
  rcases hs with hs | hs <;> simp only [hs]

/-- A request with any value out of range is refused and changes nothing. -/
theorem channelOpen_of_outside {b limit retries : Byte} (service : Byte) (s : State)
    (h : (b ≠ 1 ∧ b ≠ 2) ∨ limit.toNat = 0 ∨ 12 < limit.toNat ∨ 7 < retries.toNat) :
    channelOpen [b, limit, retries, service] s = answer .badValue s := by
  unfold channelOpen
  dsimp only
  split
  · rename_i hchannel hlimit hretries
    exfalso
    rcases h with ⟨h1, h2⟩ | h | h | h
    · rw [channelField_of_outside h1 h2] at hchannel; cases hchannel
    · rw [rangeField_of_outside (by omega)] at hlimit; cases hlimit
    · rw [rangeField_of_outside (by omega)] at hlimit; cases hlimit
    · rw [rangeField_of_outside (by omega)] at hretries; cases hretries
  · rfl

/-- Settles O35: the channel by its state, and each field out of its range. -/
theorem channelOpenSetsTheParameters : Obligations.ChannelOpenSetsTheParameters := by
  intro s seq limit retries service h
  have request : ∀ {b code : Byte} {t : State} {r : Result},
      channelOpen [b, limit, retries, service] s = answer r t → r.code = code →
        exec (.channelOpen seq [b, limit, retries, service]) s = .next (t.answered seq [code]) :=
    fun hd hr => exec_answer (c := .channelOpen) h rfl hd hr
  exact ⟨fun c hlimit hretries => ⟨fun hs =>
      request (channelOpen_of_free service hlimit hretries hs) rfl,
    fun hs => request (channelOpen_of_outstanding service hlimit hretries hs) rfl⟩,
    fun b hb => request (channelOpen_of_outside service s hb) rfl⟩

/-! ### CHANNEL_CLOSE (R43) -/

theorem channelClose_of_outstanding {s : State} {c : ChannelId}
    (hs : (s.channel c).state = .offered ∨ (s.channel c).state = .servicing) :
    channelClose [channelCode c] s = answer .done (endNotice c .closed s) := by
  simp only [channelClose, channelField_code]
  rcases hs with hs | hs <;> simp only [hs]

theorem channelClose_of_open {s : State} {c : ChannelId}
    (hs : (s.channel c).state = .idle ∨ (s.channel c).state = .stalled) :
    channelClose [channelCode c] s =
      answer .done (s.setChannel c { s.channel c with state := .closed }) := by
  simp only [channelClose, channelField_code]
  rcases hs with hs | hs <;> simp only [hs]

theorem channelClose_of_closed {s : State} {c : ChannelId} (hs : (s.channel c).state = .closed) :
    channelClose [channelCode c] s = answer .done s := by
  simp only [channelClose, channelField_code, hs]

theorem channelClose_of_outside {b : Byte} (s : State) (h1 : b ≠ 1) (h2 : b ≠ 2) :
    channelClose [b] s = answer .badValue s := by
  simp only [channelClose, channelField_of_outside h1 h2]

/-! ### SETTLE (R37, R39) -/

theorem settleRequest_of_outstanding {s : State} {c : ChannelId} (number : Byte)
    (hs : (s.channel c).state = .offered ∨ (s.channel c).state = .servicing) :
    settleRequest [channelCode c, number] s = if (s.channel c).number = number
      then answer .done (compose c (endNotice c .idle s)) else answer .notOutstanding s := by
  simp only [settleRequest, channelField_code]
  rcases hs with hs | hs <;> simp only [hs, settleNotice]

theorem settleRequest_of_open {s : State} {c : ChannelId} (number : Byte)
    (hs : (s.channel c).state = .idle ∨ (s.channel c).state = .stalled) :
    settleRequest [channelCode c, number] s = answer .notOutstanding s := by
  simp only [settleRequest, channelField_code]
  rcases hs with hs | hs <;> simp only [hs]

theorem settleRequest_of_closed {s : State} {c : ChannelId} (number : Byte)
    (hs : (s.channel c).state = .closed) :
    settleRequest [channelCode c, number] s = answer .closed s := by
  simp only [settleRequest, channelField_code, hs]

theorem settleRequest_of_outside {b : Byte} (number : Byte) (s : State) (h1 : b ≠ 1) (h2 : b ≠ 2) :
    settleRequest [b, number] s = answer .badValue s := by
  simp only [settleRequest, channelField_of_outside h1 h2]

/-- Settles O36: both requests by the channel's state, and SETTLE by its notice number. -/
theorem closeAndSettleEndNotices : Obligations.CloseAndSettleEndNotices := by
  intro s seq number h
  have close : ∀ {b code : Byte} {t : State} {r : Result}, channelClose [b] s = answer r t →
      r.code = code → exec (.channelClose seq [b]) s = .next (t.answered seq [code]) :=
    fun hd hr => exec_answer (c := .channelClose) h rfl hd hr
  have settle : ∀ {b code : Byte} {t : State} {r : Result}, settleRequest [b, number] s = answer r t →
      r.code = code → exec (.settle seq [b, number]) s = .next (t.answered seq [code]) :=
    fun hd hr => exec_answer (c := .settle) h rfl hd hr
  refine ⟨fun c => ?_, fun b h1 h2 => ⟨close (channelClose_of_outside s h1 h2) rfl,
    settle (settleRequest_of_outside number s h1 h2) rfl⟩⟩
  intro ch
  refine ⟨fun hs => ⟨close (channelClose_of_outstanding hs) rfl, ?_⟩,
    fun hs => ⟨close (channelClose_of_open hs) rfl, settle (settleRequest_of_open number hs) rfl⟩,
    fun hs => ⟨close (channelClose_of_closed hs) rfl,
      settle (settleRequest_of_closed number hs) rfl⟩⟩
  have hsettle := settleRequest_of_outstanding number hs
  by_cases hnumber : ch.number = number
  · rw [if_pos hnumber] at hsettle ⊢
    exact settle hsettle rfl
  · rw [if_neg hnumber] at hsettle ⊢
    exact settle hsettle rfl

/-! ### ACCEPT (R37, R38) -/

theorem acceptNotice_of_offered {s : State} {c : ChannelId} {number : Byte}
    (hs : (s.channel c).state = .offered) (hn : (s.channel c).number = number) :
    acceptNotice [channelCode c, number] s =
      answer .done (s.setChannel c (s.channel c).accepted) := by
  simp only [acceptNotice, channelField_code, hs, hn, if_true]

theorem acceptNotice_of_servicing {s : State} {c : ChannelId} {number : Byte}
    (hs : (s.channel c).state = .servicing) (hn : (s.channel c).number = number) :
    acceptNotice [channelCode c, number] s = answer .done s := by
  simp only [acceptNotice, channelField_code, hs, hn, if_true]

theorem acceptNotice_of_other_number {s : State} {c : ChannelId} {number : Byte}
    (hs : (s.channel c).state = .offered ∨ (s.channel c).state = .servicing)
    (hn : (s.channel c).number ≠ number) :
    acceptNotice [channelCode c, number] s = answer .notOutstanding s := by
  simp only [acceptNotice, channelField_code]
  rcases hs with hs | hs <;> simp only [hs, if_neg hn]

theorem acceptNotice_of_open {s : State} {c : ChannelId} (number : Byte)
    (hs : (s.channel c).state = .idle ∨ (s.channel c).state = .stalled) :
    acceptNotice [channelCode c, number] s = answer .notOutstanding s := by
  simp only [acceptNotice, channelField_code]
  rcases hs with hs | hs <;> simp only [hs]

theorem acceptNotice_of_closed {s : State} {c : ChannelId} (number : Byte)
    (hs : (s.channel c).state = .closed) :
    acceptNotice [channelCode c, number] s = answer .closed s := by
  simp only [acceptNotice, channelField_code, hs]

theorem acceptNotice_of_outside {b : Byte} (number : Byte) (s : State) (h1 : b ≠ 1) (h2 : b ≠ 2) :
    acceptNotice [b, number] s = answer .badValue s := by
  simp only [acceptNotice, channelField_of_outside h1 h2]

/-- Settles O37: ACCEPT by the channel's state and the notice number. -/
theorem acceptTakesANoticeIntoService : Obligations.AcceptTakesANoticeIntoService := by
  intro s seq number h
  have accept : ∀ {b code : Byte} {t : State} {r : Result}, acceptNotice [b, number] s = answer r t →
      r.code = code → exec (.accept seq [b, number]) s = .next (t.answered seq [code]) :=
    fun hd hr => exec_answer (c := .accept) h rfl hd hr
  refine ⟨fun c => ?_, fun b h1 h2 => accept (acceptNotice_of_outside number s h1 h2) rfl⟩
  intro ch
  exact ⟨fun hs hn => accept (acceptNotice_of_offered hs hn) rfl,
    fun hs hn => accept (acceptNotice_of_servicing hs hn) rfl,
    fun hs hn => accept (acceptNotice_of_other_number hs hn) rfl,
    fun hs => accept (acceptNotice_of_open number hs) rfl,
    fun hs => accept (acceptNotice_of_closed number hs) rfl⟩

end Sys2Proof.Machine
end

section
/-! PROOF. The ends of the channels' timers (R35, R36, R40): a re-sending, a stall, an overrun (O38). -/

namespace Sys2Proof.Machine

/-- A count of two bytes stops at FFFFh (00_scope 5.1). -/
theorem satInc_half (n : Half) : satInc n = if n = 0xFFFF then 0xFFFF else n + 1 := by
  have hmax : BitVec.allOnes 16 = (0xFFFF : Half) := rfl
  unfold satInc
  rw [hmax]
  by_cases h : n = 0xFFFF
  · rw [if_pos h, if_pos h, h]
  · rw [if_neg h, if_neg h]

/-! ### The offer timer (R35, R36) -/

theorem offerRunsOut_of_retries {s : State} {c : ChannelId} {left : Nat}
    (hs : (s.channel c).state = .offered) (ht : (s.channel c).offerTimer = .running left)
    (hr : (s.channel c).retryCount < (s.channel c).retries) :
    offerRunsOut c s = s.setChannel c { s.channel c with
      retryCount := (s.channel c).retryCount + 1
      sendWaiting := true
      offerTimer := .waiting } := by
  simp only [offerRunsOut, hs, ht, if_pos hr]

theorem offerRunsOut_of_last {s : State} {c : ChannelId} {left : Nat}
    (hs : (s.channel c).state = .offered) (ht : (s.channel c).offerTimer = .running left)
    (hr : (s.channel c).retries ≤ (s.channel c).retryCount) : offerRunsOut c s = stall c s := by
  simp only [offerRunsOut, hs, ht, if_neg (Nat.not_lt.mpr hr)]

/-- The row is without effect where the offer timer of an OFFERED channel does not run (log 2). -/
theorem offerRunsOut_of_stopped {s : State} {c : ChannelId}
    (h : (s.channel c).state ≠ .offered ∨ (s.channel c).offerTimer = .stopped ∨
      (s.channel c).offerTimer = .waiting) : offerRunsOut c s = s := by
  simp only [offerRunsOut]
  split
  · rename_i hs ht
    rcases h with h | h | h
    · exact absurd hs h
    · rw [h] at ht; cases ht
    · rw [h] at ht; cases ht
  · rfl

/-- The last offer timeout ends the notice in STALLED and counts a stall (R36). -/
theorem stall_eq (c : ChannelId) (s : State) : stall c s =
    (endNotice c .stalled s).setChannel c { (endNotice c .stalled s).channel c with
      stallCount := if (s.channel c).stallCount = 0xFFFF then 0xFFFF
        else (s.channel c).stallCount + 1 } := by
  have hcount : ((endNotice c .stalled s).channel c).stallCount = (s.channel c).stallCount := by
    rw [endNotice_channel]; rfl
  simp only [stall, hcount, satInc_half]

/-! ### The service timer (R40) -/

theorem serviceRunsOut_of_running {s : State} {c : ChannelId} {left : Nat}
    (hs : (s.channel c).state = .servicing) (ht : (s.channel c).serviceTimer = some left) :
    serviceRunsOut c s = compose c (endNotice c .idle (s.setChannel c { s.channel c with
      overrunCount := if (s.channel c).overrunCount = 0xFFFF then 0xFFFF
        else (s.channel c).overrunCount + 1 })) := by
  simp only [serviceRunsOut, hs, ht, settleNotice, satInc_half]

/-- The row is without effect where the service timer of a SERVICING channel does not run (log 2). -/
theorem serviceRunsOut_of_stopped {s : State} {c : ChannelId}
    (h : (s.channel c).state ≠ .servicing ∨ (s.channel c).serviceTimer = none) :
    serviceRunsOut c s = s := by
  simp only [serviceRunsOut]
  split
  · rename_i hs ht
    rcases h with h | h
    · exact absurd hs h
    · rw [h] at ht; cases ht
  · rfl

/-- Settles O38: each timer by the channel's state, the timer and the retries left. -/
theorem channelTimersRunOut : Obligations.ChannelTimersRunOut := by
  intro s c hrun ch up
  have offer : ∀ {t : State}, offerRunsOut c s = t → exec (.offerTimeout c) s = .next t.concluded :=
    fun ht => (run_of_running hrun).trans (by rw [ht])
  have service : ∀ {t : State}, serviceRunsOut c s = t →
      exec (.serviceExpiry c) s = .next t.concluded :=
    fun ht => (run_of_running hrun).trans (by rw [ht])
  exact ⟨fun left hs ht hr => offer (offerRunsOut_of_retries hs ht hr),
    fun left hs ht hr => offer ((offerRunsOut_of_last hs ht hr).trans (stall_eq c s)),
    fun h => offer (offerRunsOut_of_stopped h),
    fun left hs ht => service (serviceRunsOut_of_running hs ht),
    fun h => service (serviceRunsOut_of_stopped h)⟩

end Sys2Proof.Machine
end

section
/-! PROOF. RXD and the break (R46, R154 to R156), and the end of a frame on TXD (R34, R153, R156, R164): O21 and
O22. -/

namespace Sys2Proof.Machine

/-! ### The link reset (R46, R155) -/

/-- The part after a link reset, before the warm restart that may follow (R155, steps 1 to 5). -/
def State.linkWasReset (s : State) : State :=
  { s with
    link := s.link.broken
    priority := s.priority.linkReset
    routine := s.routine.linkReset }

/-- A RESTART reply that the reset drops is followed by the warm restart (R156). -/
theorem resetLink_eq (s : State) : resetLink s =
    if s.link.restartPending = true ∧ s.link.replyWaiting.isSome = true
      then warmRestart s.linkWasReset else s.linkWasReset := by
  simp only [resetLink, Bool.and_eq_true, State.linkWasReset]

theorem linkWasReset_channel (s : State) (c : ChannelId) :
    s.linkWasReset.channel c = (s.channel c).linkReset := by cases c <;> rfl

/-! ### RXD (R154) -/

/-- A raw RXD pin at a running part. -/
theorem exec_rxd {s : State} (level : Bool) (h : s.phase = .running) :
    exec (.pinLevelChange .rxd level) s = .next (rxdChanges level s).concluded :=
  congrArg _ (if_pos h)

theorem rxdChanges_of_level {s : State} {level : Bool} (h : level = s.link.rxd) :
    rxdChanges level s = s := if_pos h

theorem rxdChanges_of_fall {s : State} (h : s.link.rxd = true) : rxdChanges false s =
    s.setLink { s.link with rxd := false, breakTimer := some 2 } := by
  simp [rxdChanges, h, Config.breakTime]

theorem rxdChanges_of_rise {s : State} (h : s.link.rxd = false) : rxdChanges true s =
    if s.link.inBreak then resetLink s
      else s.setLink { s.link with rxd := true, breakTimer := none } := by
  simp [rxdChanges, h]

/-- Settles O21: the rows by what they do, and RXD by its level and the break mark. -/
theorem breaksResetTheLink : Obligations.BreaksResetTheLink := by
  intro s hrun
  have hreset : exec .linkReset s = .next (resetLink s).concluded := run_of_running hrun
  refine ⟨run_of_running hrun, ⟨s.linkWasReset, ?_, rfl, fun c hs => ?_, fun c hs => ?_, rfl, rfl,
    rfl, rfl, rfl, rfl, rfl, rfl, rfl⟩, fun level hlevel => ?_, fun hhigh => ?_,
    fun hlow hbreak => ?_, fun hlow hbreak => ?_⟩
  · rw [hreset, resetLink_eq]
  · rw [linkWasReset_channel, Channel.linkReset, if_pos hs]
  · rw [linkWasReset_channel, Channel.linkReset, if_neg hs]
  · rw [exec_rxd level hrun, rxdChanges_of_level hlevel]
  · rw [exec_rxd false hrun, rxdChanges_of_fall hhigh]
  · rw [exec_rxd true hrun, rxdChanges_of_rise hlow, if_neg (by simp [hbreak])]
  · rw [exec_rxd true hrun, rxdChanges_of_rise hlow, if_pos hbreak, hreset]

/-! ### The end of a frame on TXD (R153) -/

theorem frameSent_of_idle {s : State} (h : s.link.tx = .idle) : frameSent s = s := by
  simp only [frameSent, h]

/-- Behind the RESTART reply, which is sent with none waiting, comes the warm restart (R156). -/
theorem frameSent_of_reply {s : State} {f : Frame} (h : s.link.tx = .reply f) : frameSent s =
    if s.link.restartPending = true ∧ s.link.replyWaiting = none
      then warmRestart (s.setLink { s.link with tx := .idle })
      else s.setLink { s.link with tx := .idle } := by
  simp only [frameSent, h, Bool.and_eq_true, Option.isNone_iff_eq_none]

/-- A notice that has been sent is counted, and its offer timer starts (R34). -/
theorem frameSent_of_notice {s : State} {c : ChannelId} {f : Frame} (h : s.link.tx = .notice c f) :
    frameSent s =
      (s.setLink { s.link with tx := .idle }).setChannel c { s.channel c with
        offersSent := if (s.channel c).offersSent = 0xFFFF then 0xFFFF
          else (s.channel c).offersSent + 1
        offerTimer :=
          if (s.channel c).state = .offered ∧ (s.channel c).sendWaiting = false then .running 250
          else (s.channel c).offerTimer } := by
  simp only [frameSent, h, State.channel_setLink, Channel.sent, satInc_half]
  rfl

/-- Settles O22: RESTART as its owner answers it, and the end of a frame by what stands on TXD. -/
theorem framesOnTxdEnd : Obligations.FramesOnTxdEnd := by
  refine ⟨fun s seq h => ?_, fun s hrun => ?_⟩
  · exact exec_request (c := .restart) h rfl
      (d := answer .done (s.setLink { s.link with restartPending := true })) rfl
  · have sent : ∀ {t : State}, frameSent s = t → exec .txFrameEnd s = .next t.concluded :=
      fun ht => (run_of_running hrun).trans (by rw [ht])
    refine ⟨fun h => sent (frameSent_of_idle h), fun f h => ⟨fun hgoes => ?_, fun hmark hnone => ?_⟩,
      fun c f h => sent (frameSent_of_notice h)⟩
    · refine sent ((frameSent_of_reply h).trans (if_neg ?_))
      rintro ⟨hmark, hnone⟩
      rcases hgoes with hclear | hwaiting
      · rw [hclear] at hmark; cases hmark
      · rw [hnone] at hwaiting; cases hwaiting
    · exact sent ((frameSent_of_reply h).trans (if_pos ⟨hmark, hnone⟩))

end Sys2Proof.Machine
end

section
/-! PROOF. A transition of a slot (R53, R54, R56, R64, R96, R97, R99, R114, R116, R124, R129) and the leaving of
the shed list (R72, R124), field by field (O39). -/

namespace Sys2Proof.Machine

/-! ### Slots that differ in their hold counts alone -/

/-- A slot's record with its hold count blanked: two records that agree here differ in their hold counts
alone. -/
def Slot.unheld (x : Slot) : Slot := { x with holds := 0 }

/-- A record that agrees with another but for its hold count is that one with its own hold count. -/
theorem Slot.eq_of_unheld {x y : Slot} (h : y.unheld = x.unheld) : y = { x with holds := y.holds } := by
  have hback : y = { y.unheld with holds := y.holds } := rfl
  rw [hback, h]
  rfl

/-- An occurrence changes a slot's hold count alone (R12). -/
theorem occur_unheld (e : EntryId) (d : Option Half) (s : State) (i : SlotId) :
    ((occur e d s).slot i).unheld = (s.slot i).unheld := by rw [occur_slot]; rfl

/-- A transition moves its own slot's record, but for the hold count. -/
theorem enter_unheld (i : SlotId) (target : LifeState) (cause : Cause) (step : Option StepTimer)
    (s : State) : ((enter i target cause step s).slot i).unheld =
      ((s.slot i).moved target cause s.uptime step).unheld := by
  obtain ⟨n, h⟩ := transition_slot i target cause step s i
  rw [h, if_pos rfl]
  rfl

/-- A transition changes no other slot but for its hold count. -/
theorem enter_unheld_ne {i j : SlotId} (target : LifeState) (cause : Cause) (step : Option StepTimer)
    (s : State) (hj : j ≠ i) :
    ((enter i target cause step s).slot j).unheld = (s.slot j).unheld := by
  obtain ⟨n, h⟩ := transition_slot i target cause step s j
  rw [h, if_neg hj]
  rfl

/-! ### The states of a slot (R51, R56, R115, R124, R129) -/

theorem reported_iff (l : LifeState) :
    l.reported = true ↔ l = .off ∨ l = .running ∨ l = .asleep ∨ l = .faulted := by cases l <;> decide

theorem railOn_iff (l : LifeState) : l.railOn = true ↔ l ≠ .off ∧ l ≠ .queued ∧ l ≠ .faulted := by
  cases l <;> decide

theorem inPowerUp_iff (l : LifeState) : l.inPowerUp = true ↔ l = .powering ∨ l = .releasing := by
  cases l <;> decide

theorem inPowerUp_eq_false_iff (l : LifeState) :
    l.inPowerUp = false ↔ l ≠ .powering ∧ l ≠ .releasing := by cases l <;> decide

theorem leavesShedList_iff (l : LifeState) (c : Cause) :
    leavesShedList l c = true ↔ l = .running ∨ l = .faulted ∨ (l = .off ∧ c ≠ .shed) := by
  cases l <;> simp [leavesShedList]

theorem settlesRestore_iff (l : LifeState) :
    settlesRestore l = true ↔ l = .running ∨ l = .off ∨ l = .faulted := by cases l <;> decide

/-! ### The record of a slot after a transition -/

theorem freshHeartbeat_eq (c : SlotConfig) : c.freshHeartbeat =
    if c.supervisionInterval ≠ 0 then some (c.supervisionInterval * 100) else none :=
  (ite_not _ _ _).symm

theorem freshIdle_eq (c : SlotConfig) : c.freshIdle =
    if c.idleAction = .sleep then some (c.idleLimit * 1000) else none := by
  unfold SlotConfig.freshIdle
  cases c.idleAction <;> rfl

/-- The timers of RUNNING start afresh there and stop elsewhere (R64, R96, R99); the cut of a rail that was on
starts the off timer (R53). -/
theorem moved_eq (x : Slot) (target : LifeState) (cause : Cause) (now : Word)
    (step : Option StepTimer) : x.moved target cause now step = { x with
      state := target
      last := some { cause := cause, time := now }
      step := step
      offTimer := if x.state.railOn = true ∧ target.railOn = false then 0 else x.offTimer
      deferredWake := none
      pendingSleep := none
      verdictTimer := none
      heartbeat := if target = .running ∧ x.config.supervisionInterval ≠ 0
        then some (x.config.supervisionInterval * 100) else none
      expiredOnce := false
      idleTimer := if target = .running ∧ x.config.idleAction = .sleep
        then some (x.config.idleLimit * 1000) else none } := by
  simp only [Slot.moved, freshHeartbeat_eq, freshIdle_eq, Bool.and_eq_true, Bool.not_eq_true',
    ite_and]

/-! ### The Staging Unit after a transition -/

/-- A slot that is not listed is filtered out of the shed list without effect. -/
theorem shedList_filter_of_unlisted {u : Staging} {i : SlotId}
    (h : i ∉ u.shedList.map ShedPlace.slot) :
    (u.shedList.filter fun p => decide (p.slot ≠ i)) = u.shedList := by
  rw [List.filter_eq_self]
  intro p hp
  rw [decide_eq_true_eq]
  rintro rfl
  exact h (List.mem_map_of_mem hp)

/-- `told_eq` by the target and the cause: the start queue (R114), the stagger gap (R116), the shed list (R124)
and the restore (R129). -/
theorem told_by_target (u : Staging) (i : SlotId) (before target : LifeState) (cause : Cause) :
    u.told i before target cause =
      let rest := u.shedList.filter fun p => decide (p.slot ≠ i)
      let leaves := i ∈ u.shedList.map ShedPlace.slot ∧
        (target = .running ∨ target = .faulted ∨ (target = .off ∧ cause ≠ .shed))
      { u with
        startQueue := if before = .queued
          then u.startQueue.filter fun p => decide (p.slot ≠ i) else u.startQueue
        staggerTimer :=
          if (before = .powering ∨ before = .releasing) ∧ target ≠ .powering ∧ target ≠ .releasing
          then (if u.staggerGap = 0 then none else some (u.staggerGap * 10)) else u.staggerTimer
        shedList := if leaves then rest else u.shedList
        shedLevel := if leaves ∧ rest = [] then 0 else u.shedLevel
        restore :=
          if leaves ∧ rest = [] then .clear
          else if u.restore = .watching i ∧ (target = .running ∨ target = .off ∨ target = .faulted)
          then .between else u.restore } := by
  rw [told_eq]
  dsimp only
  simp only [inPowerUp_iff, inPowerUp_eq_false_iff, leavesShedList_iff, settlesRestore_iff]
  by_cases hl : i ∈ u.shedList.map ShedPlace.slot
  · simp only [hl, true_and, and_comm]
  · simp only [hl, false_and, if_false, shedList_filter_of_unlisted hl, ite_self, and_comm]

/-! ### A transition and what it reports -/

/-- An occurrence with a detail leaves that detail on its entry (R9, R10). -/
theorem record_detail (x : Entry) (now : Word) (d : Half) :
    (x.record now (some d)).latch.bind Latch.detail = some d := by
  unfold Entry.record
  split <;> rfl

/-- A transition to OFF, RUNNING, ASLEEP or FAULTED is an occurrence (R56). -/
theorem enter_of_reported {i : SlotId} {target : LifeState} (cause : Cause) (step : Option StepTimer)
    (s : State) (h : target.reported = true) : enter i target cause step s =
      occur (transitionEntry i) (some (transitionDetail target cause))
        ((s.setSlot i ((s.slot i).moved target cause s.uptime step)).setStaging
          (s.staging.told i (s.lifeOf i) target cause)) := if_pos h

/-- A transition to any other state is none (R56). -/
theorem enter_of_unreported {i : SlotId} {target : LifeState} (cause : Cause) (step : Option StepTimer)
    (s : State) (h : target.reported = false) : enter i target cause step s =
      (s.setSlot i ((s.slot i).moved target cause s.uptime step)).setStaging
        (s.staging.told i (s.lifeOf i) target cause) := if_neg (by rw [h]; exact Bool.false_ne_true)

/-- A transition touches no entry but the slot's own (R56). -/
theorem enter_entry_ne {i : SlotId} {e : EntryId} (target : LifeState) (cause : Cause)
    (step : Option StepTimer) (s : State) (he : e ≠ transitionEntry i) :
    (enter i target cause step s).entry e = s.entry e := by
  cases h : target.reported
  · rw [enter_of_unreported _ _ _ h]; rfl
  · rw [enter_of_reported _ _ _ h, occur_entry_ne _ _ he]; rfl

/-- A reported transition is recorded on the slot's own entry (R56). -/
theorem enter_entry_of_reported {i : SlotId} {target : LifeState} (cause : Cause)
    (step : Option StepTimer) (s : State) (h : target.reported = true) :
    (enter i target cause step s).entry (transitionEntry i) = (s.entry (transitionEntry i)).record
      s.uptime (some (transitionDetail target cause)) := by
  rw [enter_of_reported _ _ _ h, occur_entry]; rfl

/-- A transition that is not reported changes no hold count. -/
theorem enter_holds_of_unreported {i : SlotId} {target : LifeState} (cause : Cause)
    (step : Option StepTimer) (s : State) (h : target.reported = false) (j : SlotId) :
    ((enter i target cause step s).slot j).holds = (s.slot j).holds := by
  rw [enter_of_unreported _ _ _ h, State.slot_setStaging]
  by_cases hj : j = i
  · subst hj; rw [State.slot_setSlot]; rfl
  · rw [State.slot_setSlot_ne _ _ hj]

/-! ### The leaving of the shed list (R124) -/

theorem unlist_of_unlisted {s : State} {i : SlotId} (h : i ∉ s.staging.shedList.map ShedPlace.slot) :
    unlist i s = s := by
  unfold unlist
  rw [unlisted_eq, shedList_filter_of_unlisted h]
  simp only [h, false_and, if_false]
  rfl

theorem unlist_of_others {s : State} {i : SlotId} (h : i ∈ s.staging.shedList.map ShedPlace.slot)
    (hrest : (s.staging.shedList.filter fun p => decide (p.slot ≠ i)) ≠ []) : unlist i s =
      s.setStaging { s.staging with
        shedList := s.staging.shedList.filter fun p => decide (p.slot ≠ i) } := by
  unfold unlist
  rw [unlisted_eq]
  simp only [h, hrest, and_false, if_false]

/-- A shed list that becomes empty sets the shed level to 0 and ends a restore. -/
theorem unlist_of_last {s : State} {i : SlotId} (h : i ∈ s.staging.shedList.map ShedPlace.slot)
    (hrest : (s.staging.shedList.filter fun p => decide (p.slot ≠ i)) = []) : unlist i s =
      s.setStaging { s.staging with shedList := [], shedLevel := 0, restore := .clear } := by
  unfold unlist
  rw [unlisted_eq]
  simp only [h, hrest, and_self, if_true]

/-- Settles O39: the record by `moved_eq`, the Staging Unit by `told_by_target`, the entry by whether the target
is reported. -/
theorem transitionsMoveTheRecord : Obligations.TransitionsMoveTheRecord := by
  refine ⟨fun s i target cause step => ?_, fun s i => ?_, rfl,
    fun l => ⟨railOn_iff l, inPowerUp_iff l⟩, rfl⟩
  · intro x t u reported rest leaves record staging moved
    have hrecord : record = x.moved target cause s.uptime step := (moved_eq ..).symm
    have hstaging : staging = u.told i x.state target cause := (told_by_target ..).symm
    have hmoved : moved = (s.setSlot i (x.moved target cause s.uptime step)).setStaging
        (u.told i x.state target cause) := by rw [← hrecord, ← hstaging]
    have hreported : reported ↔ target.reported = true := (reported_iff target).symm
    have hunreported : ¬ reported ↔ target.reported = false := by
      rw [hreported, Bool.not_eq_true]
    refine ⟨fun h => ?_, fun h => ?_, (enter_staging ..).trans hstaging.symm, ?_, fun j hj =>
      Slot.eq_of_unheld (enter_unheld_ne target cause step s hj), fun h => ?_, fun h => ?_,
      fun e he => enter_entry_ne target cause step s he, enter_outside ..⟩
    · rw [hmoved]; exact enter_of_reported cause step s (hreported.mp h)
    · rw [hmoved]; exact enter_of_unreported cause step s (hunreported.mp h)
    · rw [hrecord]; exact Slot.eq_of_unheld (enter_unheld i target cause step s)
    · exact (congrArg (fun y : Entry => y.latch.bind Latch.detail)
        (enter_entry_of_reported cause step s (hreported.mp h))).trans (record_detail ..)
    · have heq : t = _ := enter_of_unreported cause step s (hunreported.mp h)
      refine ⟨?_, ?_, ?_, ?_, enter_holds_of_unreported cause step s (hunreported.mp h)⟩ <;>
        rw [heq] <;> rfl
  · exact ⟨unlist_of_unlisted, unlist_of_others, unlist_of_last⟩

end Sys2Proof.Machine
end

section
/-! PROOF. The driven lines of a slot (R51, R106), the entries that test a line at once and the power-up claim
(R60, R61, R63, R66, R86, R89, R114), the step limits, the edges of PGOOD and RDY (R52, R68), and presence (R70,
R71): O40, O41, O46 to O48. -/

namespace Sys2Proof.Machine

/-! ### The second step of WAKING (R89) -/

theorem pgoodReturned_iff (x : Slot) :
    x.pgoodReturned = true ↔ x.step.map StepTimer.kind = some .wake := by
  unfold Slot.pgoodReturned
  cases x.step <;> simp

theorem pgoodReturned_eq_false_iff (x : Slot) :
    x.pgoodReturned = false ↔ ¬ x.step.map StepTimer.kind = some .wake := by
  rw [← pgoodReturned_iff, Bool.not_eq_true]

/-! ### The driven lines (R51, R106) -/

theorem driven_mrst_iff (x : Slot) : x.driven.mrst = true ↔ x.state = .off ∨ x.state = .queued ∨
    x.state = .powering ∨ x.state = .releasing ∨ x.state = .resetting ∨ x.state = .faulted := by
  unfold Slot.driven
  cases x.state <;> simp

theorem driven_slp_iff (x : Slot) : x.driven.slp = true ↔ x.state = .entering ∨ x.state = .asleep ∨
    (x.state = .waking ∧ x.step.map StepTimer.kind ≠ some .wake) := by
  rw [ne_eq, ← pgoodReturned_iff]
  unfold Slot.driven
  cases x.state <;> simp

/-- Settles O40: a running part drives each line by the slot's record. -/
theorem outputLinesFollowTheSlot : Obligations.OutputLinesFollowTheSlot := by
  intro s i hrun x d
  have hdriven : d = x.driven := if_pos hrun
  rw [hdriven]
  exact ⟨railOn_iff x.state, beq_iff_eq, driven_mrst_iff x, driven_slp_iff x, beq_iff_eq, rfl⟩

/-! ### What a transition leaves for the test of a line -/

theorem lineSet_of_outside {s t : State} (h : t.outside = s.outside) (i : SlotId) :
    t.lineSet i = s.lineSet i := by rw [State.lineSet, lines_of_outside h]; rfl

@[simp] theorem enter_lineSet (i : SlotId) (target : LifeState) (cause : Cause)
    (step : Option StepTimer) (s : State) (j : SlotId) :
    (enter i target cause step s).lineSet j = s.lineSet j := lineSet_of_outside (enter_outside ..) j

@[simp] theorem enter_config (i : SlotId) (target : LifeState) (cause : Cause)
    (step : Option StepTimer) (s : State) :
    ((enter i target cause step s).slot i).config = (s.slot i).config := by
  have h := congrArg Slot.config (enter_unheld i target cause step s)
  exact h

@[simp] theorem enter_last (i : SlotId) (target : LifeState) (cause : Cause)
    (step : Option StepTimer) (s : State) : ((enter i target cause step s).slot i).last =
      some { cause := cause, time := s.uptime } := by
  have h := congrArg Slot.last (enter_unheld i target cause step s)
  exact h

/-! ### The ends of the steps, with the cause of the last transition (log 15) -/

theorem carriedCause_of_last {x : Slot} {t : Transition} (h : x.last = some t) :
    x.carriedCause = t.cause := by rw [Slot.carriedCause, h]; rfl

section Steps

variable {s : State} {i : SlotId} {t : Transition}

theorem beginReleasing_of_last (h : (s.slot i).last = some t) : beginReleasing i s =
    enter i .releasing t.cause
      (some { kind := .resetHold, left := (s.slot i).config.resetHold }) s := by
  rw [beginReleasing, carriedCause_of_last h]

theorem endStopping_of_last (h : (s.slot i).last = some t) :
    endStopping i s = enter i .off t.cause none s := by rw [endStopping, carriedCause_of_last h]

theorem endWaking_of_last (h : (s.slot i).last = some t) :
    endWaking i s = enter i .running t.cause none s := by rw [endWaking, carriedCause_of_last h]

/-- The second step of WAKING ends at once where RDY is released (R89). -/
theorem secondStepOfWaking_of_last (h : (s.slot i).last = some t) : secondStepOfWaking i s =
    let second := s.setSlot i { s.slot i with
      step := some { kind := .wake, left := (s.slot i).config.wakeLimit * 100 } }
    if (s.lineSet i).rdy.level then second else enter i .running t.cause none second := by
  have hsecond : ((s.setSlot i { s.slot i with step := some { kind := .wake, left :=
      (s.slot i).config.wakeLimit * 100 } }).slot i).last = some t := by rw [State.slot_setSlot]; exact h
  exact if_congr Iff.rfl rfl (endWaking_of_last hsecond)

theorem readyInEntering_of_none (h : (s.slot i).last = some t)
    (hw : (s.slot i).deferredWake = none) :
    readyInEntering i s = enter i .asleep t.cause none s := by
  simp only [readyInEntering, hw, carriedCause_of_last h]

theorem readyInEntering_of_wake {w : Cause} (hw : (s.slot i).deferredWake = some w) :
    readyInEntering i s = beginWaking i w s := by simp only [readyInEntering, hw]

end Steps

/-! ### The steps with a test at their entry -/

theorem beginPowering_eq (i : SlotId) (cause : Cause) (s : State) : beginPowering i cause s =
    let powering := enter i .powering cause
      (some { kind := .powerUp, left := (s.slot i).config.powerUpLimit * 10 }) s
    if (s.lineSet i).pgood.level then enter i .releasing cause
        (some { kind := .resetHold, left := (s.slot i).config.resetHold }) powering
      else powering := by
  simp only [beginPowering, enter_lineSet, beginReleasing_of_last (enter_last ..), enter_config]

theorem beginStopping_eq (i : SlotId) (cause : Cause) (s : State) : beginStopping i cause s =
    let stopping := enter i .stopping cause
      (some { kind := .stop, left := (s.slot i).config.stopLimit * 1000 }) s
    if (s.lineSet i).rdy.level then enter i .off cause none stopping else stopping := by
  simp only [beginStopping, enter_lineSet, endStopping_of_last (enter_last ..)]

/-- An entry into ENTERING clears the deferred wake, so that RDY brings ASLEEP (R86). -/
theorem beginEntering_eq (i : SlotId) (cause : Cause) (s : State) : beginEntering i cause s =
    let entering := enter i .entering cause
      (some { kind := .sleepEntry, left := (s.slot i).config.sleepEntryLimit * 100 }) s
    if (s.lineSet i).rdy.level then enter i .asleep cause none entering else entering := by
  simp only [beginEntering, enter_lineSet,
    readyInEntering_of_none (enter_last ..) (enter_deferredWake ..)]

theorem beginWaking_eq (i : SlotId) (cause : Cause) (s : State) : beginWaking i cause s =
    let waking := enter i .waking cause
      (some { kind := .powerUp, left := (s.slot i).config.powerUpLimit * 10 }) s
    let second := waking.setSlot i { waking.slot i with
      step := some { kind := .wake, left := (s.slot i).config.wakeLimit * 100 } }
    if (s.lineSet i).pgood.level
      then (if (s.lineSet i).rdy.level then second else enter i .running cause none second)
      else waking := by
  simp only [beginWaking, enter_lineSet, secondStepOfWaking_of_last (enter_last ..), enter_config]

/-- A slot that is not QUEUED joins the tail of the start queue as it stands (R60, R114). -/
theorem enqueue_of_unqueued {i : SlotId} {s : State} (o : QueueOrigin) (h : s.lifeOf i ≠ .queued) :
    enqueue i o s = (enter i .queued o.cause none s).setStaging
      { (enter i .queued o.cause none s).staging with
        startQueue := s.staging.startQueue ++ [{ slot := i, origin := o }] } := by
  have hqueue : (enter i .queued o.cause none s).staging.startQueue = s.staging.startQueue := by
    rw [enter_staging, told_startQueue, if_neg h]
  rw [enqueue, hqueue]

/-- Settles O41, step by step. -/
theorem stepsTestTheirLineAtEntry : Obligations.StepsTestTheirLineAtEntry :=
  ⟨rfl, fun s i cause => ⟨beginPowering_eq i cause s, beginStopping_eq i cause s,
    beginEntering_eq i cause s, beginWaking_eq i cause s, fun o h => enqueue_of_unqueued o h⟩⟩

/-! ### The step limits -/

/-- Settles O46: each limit is a test of the slot's state and, in WAKING, of its step. -/
theorem stepLimitsRunOut : Obligations.StepLimitsRunOut := by
  intro s i hrun x second
  have expires : ∀ {f : State → State} {t : State}, f s = t → run f s = .next t.concluded :=
    fun ht => (run_of_running hrun).trans (by rw [ht])
  have hfirst : x.pgoodReturned = false ↔ ¬ second := pgoodReturned_eq_false_iff x
  have hsecond : x.pgoodReturned = true ↔ second := pgoodReturned_iff x
  refine ⟨expires rfl, fun t ht => expires ?_, expires rfl, expires rfl, expires rfl,
    expires ?_, expires ?_⟩
  · rw [resetHoldRunsOut, carriedCause_of_last ht]; rfl
  · exact if_congr (and_congr Iff.rfl hfirst) rfl rfl
  · exact if_congr (and_congr Iff.rfl hsecond) rfl rfl

/-! ### Rows that name an edge -/

section Rows

variable {s : State} {p : Pin} {l : Line} {level : Bool}

/-- A row that names the level the line has leaves the line there (log 3). -/
theorem run_lineTakes_of_level (hrun : s.phase = .running) (hl : s.pinLine p = some l)
    (h : l.level = level) :
    run (lineTakes p level) s = .next (s.setPinLine p (Line.settled level)).concluded := by
  rw [run_lineTakes level hrun hl, if_pos h]

/-- A row that names the other level is the edge at the block that takes it (log 3). -/
theorem run_lineTakes_of_edge (hrun : s.phase = .running) (hl : s.pinLine p = some l)
    (h : l.level ≠ level) {t : State} (ht : deliver p level (s.setPinLine p (Line.settled level)) = t) :
    run (lineTakes p level) s = .next t.concluded := by
  rw [run_lineTakes level hrun hl, if_neg h, edge, ht]

end Rows

/-! ### The edges of PGOOD and RDY by the slot's state (R52) -/

/-- The states in which a release of PGOOD is a loss (R68). -/
theorem watchesLoss_iff (x : Slot) : x.watchesLoss = true ↔
    x.state ∈ [.releasing, .running, .resetting, .sleepWait, .entering, .stopping] ∨
      (x.state = .waking ∧ x.step.map StepTimer.kind = some .wake) := by
  rw [← pgoodReturned_iff]
  unfold Slot.watchesLoss
  cases x.state <;> simp

section Edges

variable {s : State} {i : SlotId}

theorem pgoodRises_of_powering (h : s.lifeOf i = .powering) : pgoodRises i s = beginReleasing i s := by
  simp only [pgoodRises, h]

theorem pgoodRises_of_waking (h : s.lifeOf i = .waking) (hp : (s.slot i).pgoodReturned = false) :
    pgoodRises i s = secondStepOfWaking i s := by
  simp only [pgoodRises, h, hp, Bool.false_eq_true, if_false]

theorem pgoodRises_of_unwatched (h : s.lifeOf i ≠ .powering)
    (hp : s.lifeOf i = .waking → (s.slot i).pgoodReturned = true) : pgoodRises i s = s := by
  unfold pgoodRises
  split
  case h_1 heq => exact absurd heq h
  case h_2 heq => exact if_pos (hp heq)
  all_goals rfl

theorem rdyRises_of_stopping (h : s.lifeOf i = .stopping) : rdyRises i s = endStopping i s := by
  simp only [rdyRises, h]

theorem rdyRises_of_entering (h : s.lifeOf i = .entering) : rdyRises i s = readyInEntering i s := by
  simp only [rdyRises, h]

theorem rdyRises_of_unwatched (h : s.lifeOf i ≠ .stopping) (he : s.lifeOf i ≠ .entering) :
    rdyRises i s = s := by
  unfold rdyRises
  split
  case h_1 heq => exact absurd heq h
  case h_2 heq => exact absurd heq he
  all_goals rfl

end Edges

/-- Settles O47: each row by the level of its line, and each edge by the slot's state. -/
theorem supplyAndReadyEdges : Obligations.SupplyAndReadyEdges := by
  intro s i hrun x l second high low pgHigh pgLow rdyHigh rdyLow
  have hsecond : x.pgoodReturned = true ↔ second := pgoodReturned_iff x
  have hfirst : x.pgoodReturned = false ↔ ¬ second := pgoodReturned_eq_false_iff x
  have pgoodRow : l.pgood.level = false → ∀ {t : State}, pgoodRises i pgHigh = t →
      exec (.pgoodAssert i) s = .next t.concluded := fun hl _ ht =>
    run_lineTakes_of_edge (p := .pgood i) hrun rfl (Bool.eq_false_iff.mp hl) ht
  have rdyRow : l.rdy.level = false → ∀ {t : State}, rdyRises i rdyHigh = t →
      exec (.rdyAssert i) s = .next t.concluded := fun hl _ ht =>
    run_lineTakes_of_edge (p := .rdy i) hrun rfl (Bool.eq_false_iff.mp hl) ht
  refine ⟨fun hl => run_lineTakes_of_level (p := .pgood i) hrun rfl hl,
    fun hl t ht => ⟨fun hx => ?_, fun hx hs => ?_⟩, fun hl hx hs => ?_, ?_, fun h => ?_,
    fun hl t ht => ⟨fun hx => ?_, fun hx hw => ?_, fun w hx hw => ?_⟩, fun t ht => ?_⟩
  · exact pgoodRow hl ((pgoodRises_of_powering (s := pgHigh) hx).trans (beginReleasing_of_last ht))
  · refine pgoodRow hl ((pgoodRises_of_waking (s := pgHigh) hx (hfirst.mpr hs)).trans ?_)
    refine (secondStepOfWaking_of_last (s := pgHigh) ht).trans ?_
    have hrdy : (pgHigh.lineSet i).rdy = l.rdy := by simp only [pgHigh, State.lineSet_setLineSet]
    rw [hrdy]
    rfl
  · exact pgoodRow hl (pgoodRises_of_unwatched (s := pgHigh) hx fun hw => hsecond.mpr (hs hw))
  · cases hl : l.pgood.level
    · exact run_lineTakes_of_level (p := .pgood i) hrun rfl hl
    · refine run_lineTakes_of_edge (p := .pgood i) hrun rfl (by simp [l, hl]) ?_
      exact if_congr ((watchesLoss_iff x).trans (and_iff_right rfl).symm) rfl rfl
  · cases hl : l.rdy.level
    · obtain ⟨hstop, henter⟩ := h.resolve_left (by simp [hl])
      exact rdyRow hl (rdyRises_of_unwatched (s := rdyHigh) hstop henter)
    · exact run_lineTakes_of_level (p := .rdy i) hrun rfl hl
  · exact rdyRow hl ((rdyRises_of_stopping (s := rdyHigh) hx).trans (endStopping_of_last ht))
  · exact rdyRow hl ((rdyRises_of_entering (s := rdyHigh) hx).trans (readyInEntering_of_none ht hw))
  · exact rdyRow hl ((rdyRises_of_entering (s := rdyHigh) hx).trans (readyInEntering_of_wake hw))
  · cases hl : l.rdy.level
    · exact run_lineTakes_of_level (p := .rdy i) hrun rfl hl
    · refine run_lineTakes_of_edge (p := .rdy i) hrun rfl (by simp [l, hl]) ?_
      exact if_congr ((and_congr Iff.rfl hsecond).trans (and_iff_right rfl).symm)
        (endWaking_of_last ht) rfl

/-! ### Presence (R70, R71) -/

/-- Settles O48: each row by the level of PRESENT, and a removal by whether the slot is OFF. -/
theorem presenceIsRecorded : Obligations.PresenceIsRecorded := by
  intro s i hrun l taken noted
  have row : ∀ (level : Bool), l.present.level ≠ level → ∀ {t : State},
      deliver (.present i) level (taken level) = t →
      run (lineTakes (.present i) level) s = .next t.concluded := fun level hl _ ht =>
    run_lineTakes_of_edge (p := .present i) hrun rfl hl ht
  refine ⟨fun hl => row true (by simp [hl]) rfl,
    fun hl => run_lineTakes_of_level (p := .present i) hrun rfl hl,
    fun hl hoff => row false (by simp [hl]) ?_, fun hl hon => row false (by simp [hl]) (if_neg hon),
    fun hl => run_lineTakes_of_level (p := .present i) hrun rfl hl⟩
  have hdetail : transitionDetail (s.lifeOf i) .removed = (0x00 : Byte) ++ (0x11 : Byte) := by
    rw [hoff]; rfl
  rw [← hdetail]
  exact if_pos hoff

end Sys2Proof.Machine
end

section
/-! PROOF. The requests SLOT_ON, SLOT_STOP, SLOT_CUT, SLOT_RESET and SLOT_FAULT_CLEAR (R62, R65 to R67, R69, R72),
state by state: O42 to O44. -/

namespace Sys2Proof.Machine

/-! ### The slot number of a request (section 3.10) -/

theorem onSlot_of_number {b : Byte} {i : SlotId} (hb : b.toNat = i.val + 1) (s : State)
    (f : SlotId → State → Answered) : onSlot [b] s f = f i s := by
  simp only [onSlot, slotField_of_number hb]

theorem onSlot_of_outside {b : Byte} (hb : b.toNat = 0 ∨ 6 < b.toNat) (s : State)
    (f : SlotId → State → Answered) : onSlot [b] s f = answer .badValue s := by
  simp only [onSlot, slotField_of_outside hb]

section Numbered

variable {b : Byte} {i : SlotId} {s : State} (hb : b.toNat = i.val + 1)
include hb

/-! ### SLOT_ON (R62) -/

theorem slotOn_of_absent (h : s.lifeOf i = .off) (hp : (s.lineSet i).present.level = false) :
    slotOn [b] s = answer .absent s := by
  rw [slotOn, onSlot_of_number hb]
  simp only [h]
  exact if_pos hp

theorem slotOn_of_rail_lost (h : s.lifeOf i = .off) (hp : (s.lineSet i).present.level = true)
    (hr : s.staging.rail = .lost) : slotOn [b] s = answer .noRail s := by
  have hpresent : ¬ s.isPresent i = false := by simp [State.isPresent, hp]
  have hrail : s.railGood = false := by simp [State.railGood, hr]
  rw [slotOn, onSlot_of_number hb]
  simp only [h, if_neg hpresent, if_pos hrail]

theorem slotOn_of_claimable (h : s.lifeOf i = .off) (hp : (s.lineSet i).present.level = true)
    (hr : s.staging.rail = .good) : slotOn [b] s = answer .queued (enqueue i .host
      ((unlist i s).setSlot i { s.slot i with override := false })) := by
  have hpresent : ¬ s.isPresent i = false := by simp [State.isPresent, hp]
  have hrail : ¬ s.railGood = false := by simp [State.railGood, hr]
  rw [slotOn, onSlot_of_number hb]
  simp only [h, if_neg hpresent, if_neg hrail, unlist_slot]

theorem slotOn_of_queued (h : s.lifeOf i = .queued) : slotOn [b] s = answer .done (unlist i s) := by
  rw [slotOn, onSlot_of_number hb]
  simp only [h, carriedOut]

theorem slotOn_of_other (h : s.lifeOf i ≠ .off) (hq : s.lifeOf i ≠ .queued) :
    slotOn [b] s = answer .wrongState s := by
  rw [slotOn, onSlot_of_number hb]
  dsimp only
  split
  case h_1 heq => exact absurd heq h
  case h_2 heq => exact absurd heq hq
  all_goals rfl

/-! ### SLOT_STOP (R66) -/

theorem slotStop_of_running (h : s.lifeOf i = .running ∨ s.lifeOf i = .sleepWait) :
    slotStop [b] s = answer .done (unlist i (beginStopping i .host s)) := by
  rw [slotStop, onSlot_of_number hb]
  rcases h with h | h <;> simp only [h, carriedOut]

theorem slotStop_of_asleep (h : s.lifeOf i = .asleep ∨ s.lifeOf i = .queued) :
    slotStop [b] s = answer .done (unlist i (enter i .off .host none s)) := by
  rw [slotStop, onSlot_of_number hb]
  rcases h with h | h <;> simp only [h, carriedOut]

theorem slotStop_of_off (h : s.lifeOf i = .off) : slotStop [b] s = answer .done (unlist i s) := by
  rw [slotStop, onSlot_of_number hb]
  simp only [h, carriedOut]

theorem slotStop_of_busy
    (h : s.lifeOf i ∈ [.powering, .releasing, .resetting, .entering, .waking, .stopping]) :
    slotStop [b] s = answer .busy s := by
  simp only [List.mem_cons, List.not_mem_nil, or_false] at h
  rw [slotStop, onSlot_of_number hb]
  rcases h with h | h | h | h | h | h <;> simp only [h]

theorem slotStop_of_faulted (h : s.lifeOf i = .faulted) : slotStop [b] s = answer .wrongState s := by
  rw [slotStop, onSlot_of_number hb]
  simp only [h]

/-! ### SLOT_CUT (R67) -/

theorem slotCut_of_off (h : s.lifeOf i = .off) : slotCut [b] s = answer .done (unlist i s) := by
  rw [slotCut, onSlot_of_number hb]
  simp only [h, carriedOut]

theorem slotCut_of_faulted (h : s.lifeOf i = .faulted) : slotCut [b] s = answer .wrongState s := by
  rw [slotCut, onSlot_of_number hb]
  simp only [h]

theorem slotCut_of_other (h : s.lifeOf i ≠ .off) (hf : s.lifeOf i ≠ .faulted) :
    slotCut [b] s = answer .done (unlist i (enter i .off .host none s)) := by
  rw [slotCut, onSlot_of_number hb]
  split
  case h_1 heq => exact absurd heq h
  case h_12 heq => exact absurd heq hf
  all_goals rfl

/-! ### SLOT_RESET (R65) and SLOT_FAULT_CLEAR (R69) -/

theorem slotReset_of_running (h : s.lifeOf i = .running) : slotReset [b] s =
    answer .done (unlist i (enter i .resetting .host
      (some { kind := .resetHold, left := (s.slot i).config.resetHold }) s)) := by
  rw [slotReset, onSlot_of_number hb]
  simp only [h, carriedOut, beginResetting]

theorem slotReset_of_busy
    (h : s.lifeOf i ∈ [.powering, .releasing, .resetting, .sleepWait, .entering, .waking, .stopping]) :
    slotReset [b] s = answer .busy s := by
  simp only [List.mem_cons, List.not_mem_nil, or_false] at h
  rw [slotReset, onSlot_of_number hb]
  rcases h with h | h | h | h | h | h | h <;> simp only [h]

theorem slotReset_of_unpowered (h : s.lifeOf i ∈ [.off, .queued, .asleep, .faulted]) :
    slotReset [b] s = answer .wrongState s := by
  simp only [List.mem_cons, List.not_mem_nil, or_false] at h
  rw [slotReset, onSlot_of_number hb]
  rcases h with h | h | h | h <;> simp only [h]

theorem slotFaultClear_of_faulted (h : s.lifeOf i = .faulted) :
    slotFaultClear [b] s = answer .done (unlist i (enter i .off .host none s)) := by
  rw [slotFaultClear, onSlot_of_number hb]
  simp only [h, carriedOut]

theorem slotFaultClear_of_other (h : s.lifeOf i ≠ .faulted) :
    slotFaultClear [b] s = answer .wrongState s := by
  rw [slotFaultClear, onSlot_of_number hb]
  split
  case h_1 heq => exact absurd heq h
  all_goals rfl

end Numbered

/-! ### The statements -/

/-- Settles O42: SLOT_ON by the slot's state, its presence and the rail. -/
theorem slotOnAsksForPowerUp : Obligations.SlotOnAsksForPowerUp := by
  intro s seq b h
  have request : ∀ {code : Byte} {t : State} {r : Result}, slotOn [b] s = answer r t →
      r.code = code → exec (.slotOn seq [b]) s = .next (t.answered seq [code]) :=
    fun hd hr => exec_answer (c := .slotOn) h rfl hd hr
  exact ⟨fun i hb => ⟨fun hs hp => request (slotOn_of_absent hb hs hp) rfl,
      fun hs hp hr => request (slotOn_of_rail_lost hb hs hp hr) rfl,
      fun hs hp hr => request (slotOn_of_claimable hb hs hp hr) rfl,
      fun hs => request (slotOn_of_queued hb hs) rfl,
      fun hs hq => request (slotOn_of_other hb hs hq) rfl⟩,
    fun hb => request (onSlot_of_outside hb s _) rfl⟩

/-- Settles O43: both requests by the slot's state. -/
theorem stopAndCutTakeASlotDown : Obligations.StopAndCutTakeASlotDown := by
  intro s seq b h
  have stop : ∀ {code : Byte} {t : State} {r : Result}, slotStop [b] s = answer r t →
      r.code = code → exec (.slotStop seq [b]) s = .next (t.answered seq [code]) :=
    fun hd hr => exec_answer (c := .slotStop) h rfl hd hr
  have cut : ∀ {code : Byte} {t : State} {r : Result}, slotCut [b] s = answer r t →
      r.code = code → exec (.slotCut seq [b]) s = .next (t.answered seq [code]) :=
    fun hd hr => exec_answer (c := .slotCut) h rfl hd hr
  exact ⟨fun i hb => ⟨fun hs => stop (slotStop_of_running hb hs) rfl,
      fun hs => stop (slotStop_of_asleep hb hs) rfl,
      fun hs => ⟨stop (slotStop_of_off hb hs) rfl, cut (slotCut_of_off hb hs) rfl⟩,
      fun hs => stop (slotStop_of_busy hb hs) rfl,
      fun hs => ⟨stop (slotStop_of_faulted hb hs) rfl, cut (slotCut_of_faulted hb hs) rfl⟩,
      fun hs hf => cut (slotCut_of_other hb hs hf) rfl⟩,
    fun hb => ⟨stop (onSlot_of_outside hb s _) rfl, cut (onSlot_of_outside hb s _) rfl⟩⟩

/-- Settles O44: both requests by the slot's state. -/
theorem resetAndFaultClear : Obligations.ResetAndFaultClear := by
  intro s seq b h
  have reset : ∀ {code : Byte} {t : State} {r : Result}, slotReset [b] s = answer r t →
      r.code = code → exec (.slotReset seq [b]) s = .next (t.answered seq [code]) :=
    fun hd hr => exec_answer (c := .slotReset) h rfl hd hr
  have clear : ∀ {code : Byte} {t : State} {r : Result}, slotFaultClear [b] s = answer r t →
      r.code = code → exec (.slotFaultClear seq [b]) s = .next (t.answered seq [code]) :=
    fun hd hr => exec_answer (c := .slotFaultClear) h rfl hd hr
  exact ⟨fun i hb => ⟨fun hs => reset (slotReset_of_running hb hs) rfl,
      fun hs => reset (slotReset_of_busy hb hs) rfl,
      fun hs => reset (slotReset_of_unpowered hb hs) rfl,
      fun hs => clear (slotFaultClear_of_faulted hb hs) rfl,
      fun hs => clear (slotFaultClear_of_other hb hs) rfl⟩,
    fun hb => ⟨reset (onSlot_of_outside hb s _) rfl, clear (onSlot_of_outside hb s _) rfl⟩⟩

end Sys2Proof.Machine
end

section
/-! PROOF. SLOT_CONFIG and the configuration block (R58, R59, R96, R99, section 10.4): O45. -/

namespace Sys2Proof.Machine

/-! ### Numbers and their bytes -/

theorem natByte_toNat (b : Byte) : natByte b.toNat = b := by
  rw [natByte, BitVec.ofNat_toNat, BitVec.setWidth_eq]

theorem toNat_natByte {n : Nat} (h : n ≤ 255) : (natByte n).toNat = n := by
  rw [natByte, BitVec.toNat_ofNat, Nat.mod_eq_of_lt (by omega)]

theorem halfBytes_halfOf (hi lo : Byte) : halfBytes (halfOf hi lo) = [hi, lo] := by
  rw [halfBytes, halfOf, BitVec.extractLsb'_append_eq_left, BitVec.extractLsb'_append_eq_right]

theorem natHalf_halfOf (hi lo : Byte) : natHalf (halfOf hi lo).toNat = [hi, lo] := by
  rw [natHalf, BitVec.ofNat_toNat, BitVec.setWidth_eq, halfBytes_halfOf]

/-- A number of two bytes goes high byte first (R166). -/
theorem natHalf_eq (n : Nat) : natHalf n = [BitVec.ofNat 8 (n / 256), BitVec.ofNat 8 n] := by
  have hhigh : (BitVec.ofNat 16 n).extractLsb' 8 8 = BitVec.ofNat 8 (n / 256) :=
    BitVec.eq_of_toNat_eq (by
      rw [BitVec.extractLsb'_toNat, BitVec.toNat_ofNat, BitVec.toNat_ofNat,
        Nat.shiftRight_eq_div_pow]
      omega)
  have hlow : (BitVec.ofNat 16 n).extractLsb' 0 8 = BitVec.ofNat 8 n :=
    BitVec.eq_of_toNat_eq (by
      rw [BitVec.extractLsb'_toNat, BitVec.toNat_ofNat, BitVec.toNat_ofNat, Nat.shiftRight_zero]
      omega)
  rw [natHalf, halfBytes, hhigh, hlow]

theorem toNat_halfOf_ofNat {n : Nat} (h : n ≤ 4095) :
    (halfOf (BitVec.ofNat 8 (n / 256)) (BitVec.ofNat 8 n)).toNat = n := by
  rw [halfOf, BitVec.toNat_append, BitVec.toNat_ofNat, BitVec.toNat_ofNat,
    ← Nat.shiftLeft_add_eq_or_of_lt (Nat.mod_lt _ (by decide)), Nat.shiftLeft_eq]
  omega

/-! ### A field of the block is the code of its value, in its range -/

theorem rangeField_eq_some_iff {lo hi n m : Nat} :
    rangeField lo hi n = some m ↔ (lo ≤ m ∧ m ≤ hi) ∧ n = m := by
  unfold rangeField
  split
  · rw [Option.some.injEq]
    exact ⟨fun h => h ▸ ⟨‹_›, rfl⟩, And.right⟩
  · exact ⟨nofun, fun ⟨h, e⟩ => absurd (e ▸ h) ‹_›⟩

theorem boolField_eq_some_iff {b : Byte} {v : Bool} : boolField b = some v ↔ b = boolByte v := by
  refine ⟨fun h => ?_, fun h => h ▸ boolField_ite v⟩
  unfold boolField at h
  split at h
  · cases h; assumption
  · split at h <;> cases h
    assumption

theorem verdictField_eq_some_iff {b : Byte} {v : Verdict} :
    verdictField b = some v ↔ b = v.code := by
  refine ⟨fun h => ?_, fun h => by subst h; cases v <;> rfl⟩
  unfold verdictField at h
  split at h <;> cases h <;> exact BitVec.eq_of_toNat_eq ‹_›

theorem idleActionField_eq_some_iff {b : Byte} {a : IdleAction} :
    idleActionField b = some a ↔ b = a.code := by
  refine ⟨fun h => ?_, fun h => by subst h; cases a <;> rfl⟩
  unfold idleActionField at h
  split at h <;> cases h <;> exact BitVec.eq_of_toNat_eq ‹_›

theorem resumeField_eq_some_iff {b : Byte} {p : ResumePolicy} :
    resumeField b = some p ↔ b = p.code := by
  refine ⟨fun h => ?_, fun h => by subst h; cases p <;> rfl⟩
  unfold resumeField at h
  split at h <;> cases h <;> exact BitVec.eq_of_toNat_eq ‹_›

theorem shedActionField_eq_some_iff {b : Byte} {a : ShedAction} :
    shedActionField b = some a ↔ b = a.code := by
  refine ⟨fun h => ?_, fun h => by subst h; cases a <;> rfl⟩
  unfold shedActionField at h
  split at h <;> cases h <;> exact BitVec.eq_of_toNat_eq ‹_›

/-! ### The configuration block (section 10.4) -/

/-- The nineteen bytes of the block, one by one. -/
theorem slotConfig_bytes (c : SlotConfig) : c.bytes =
    [natByte c.powerUpLimit, natByte c.resetHold, natByte c.sleepEntryLimit, natByte c.wakeLimit,
      natByte c.stopLimit, natByte c.offTime, boolByte c.intercept, natByte c.verdictLimit,
      c.defaultVerdict.code, natByte c.holdWaitLimit, c.idleAction.code,
      BitVec.ofNat 8 (c.idleLimit / 256), BitVec.ofNat 8 c.idleLimit,
      natByte c.supervisionInterval, natByte c.overrideTime, c.resumePolicy.code,
      boolByte c.wakeFromOff, natByte c.shedRank, c.shedAction.code] := by
  rw [SlotConfig.bytes, natHalf_eq]; rfl

/-- A configuration in range is read back from its block. -/
theorem slotConfigField_bytes {c : SlotConfig} (h : c.inRange) :
    slotConfigField c.bytes = some c := by
  obtain ⟨hpower, hreset, hentry, hwake, hstop, hoff, hverdict, hhold, hidle, hsupervision,
    hoverride, hrank⟩ := h
  rw [slotConfig_bytes]
  simp only [slotConfigField, toNat_natByte hpower.2, toNat_natByte hreset.2, toNat_natByte hentry.2,
    toNat_natByte hwake.2, toNat_natByte hstop.2, toNat_natByte hoff.2, toNat_natByte hverdict.2,
    toNat_natByte hhold, toNat_natByte hsupervision,
    toNat_natByte (hoverride.2.trans (by decide : 15 ≤ 255)),
    toNat_natByte (hrank.trans (by decide : 6 ≤ 255)), toNat_halfOf_ofNat hidle.2,
    rangeField_of_range hpower, rangeField_of_range hreset, rangeField_of_range hentry,
    rangeField_of_range hwake, rangeField_of_range hstop, rangeField_of_range hoff,
    rangeField_of_range hverdict, rangeField_of_range hidle, rangeField_of_range hoverride,
    rangeField_of_range (lo := 0) ⟨Nat.zero_le _, hrank⟩, boolField_eq_some_iff.mpr rfl,
    verdictField_eq_some_iff.mpr rfl, idleActionField_eq_some_iff.mpr rfl,
    resumeField_eq_some_iff.mpr rfl, shedActionField_eq_some_iff.mpr rfl]
  rfl

/-- A value that a number must have in its range goes on as it is. -/
theorem of_bind_rangeField {α : Type} {lo hi n : Nat} {f : Nat → Option α} {a : α}
    (h : (rangeField lo hi n >>= f) = some a) : (lo ≤ n ∧ n ≤ hi) ∧ f n = some a := by
  obtain ⟨m, hm, hf⟩ := Option.bind_eq_some_iff.mp h
  obtain ⟨hrange, rfl⟩ := rangeField_eq_some_iff.mp hm
  exact ⟨hrange, hf⟩

/-- A byte that is read as a code is the code of the value that goes on. -/
theorem of_bind_code {α β : Type} {field : Byte → Option β} {code : β → Byte} {b : Byte}
    {f : β → Option α} {a : α} (hfield : ∀ {b v}, field b = some v ↔ b = code v)
    (h : (field b >>= f) = some a) : ∃ v, b = code v ∧ f v = some a := by
  obtain ⟨v, hv, hf⟩ := Option.bind_eq_some_iff.mp h
  exact ⟨v, hfield.mp hv, hf⟩

/-- Only the blocks of configurations in range are read (R58). -/
theorem eq_bytes_of_slotConfigField {block : List Byte} {c : SlotConfig}
    (h : slotConfigField block = some c) : c.inRange ∧ block = c.bytes := by
  unfold slotConfigField at h
  split at h
  · obtain ⟨hpower, h⟩ := of_bind_rangeField h
    obtain ⟨hreset, h⟩ := of_bind_rangeField h
    obtain ⟨hentry, h⟩ := of_bind_rangeField h
    obtain ⟨hwake, h⟩ := of_bind_rangeField h
    obtain ⟨hstop, h⟩ := of_bind_rangeField h
    obtain ⟨hoff, h⟩ := of_bind_rangeField h
    obtain ⟨intercept, hinterceptByte, h⟩ := of_bind_code boolField_eq_some_iff h
    obtain ⟨hverdict, h⟩ := of_bind_rangeField h
    obtain ⟨verdict, hverdictByte, h⟩ := of_bind_code verdictField_eq_some_iff h
    obtain ⟨idle, hidleByte, h⟩ := of_bind_code idleActionField_eq_some_iff h
    obtain ⟨hidle, h⟩ := of_bind_rangeField h
    obtain ⟨hoverride, h⟩ := of_bind_rangeField h
    obtain ⟨policy, hpolicyByte, h⟩ := of_bind_code resumeField_eq_some_iff h
    obtain ⟨wakes, hwakesByte, h⟩ := of_bind_code boolField_eq_some_iff h
    obtain ⟨hrank, h⟩ := of_bind_rangeField h
    obtain ⟨shed, hshedByte, h⟩ := of_bind_code shedActionField_eq_some_iff h
    cases h
    subst hinterceptByte hverdictByte hidleByte hpolicyByte hwakesByte hshedByte
    refine ⟨⟨hpower, hreset, hentry, hwake, hstop, hoff, hverdict, by dsimp only; omega, hidle,
      by dsimp only; omega, hoverride, hrank.2⟩, ?_⟩
    simp only [SlotConfig.bytes, natByte_toNat, natHalf_halfOf]
    rfl
  · cases h

/-! ### The effects of a new configuration (R59) -/

/-- An idle action that comes to SLEEP in RUNNING starts the idle monitor, and one that goes stops it (R96). -/
theorem configured_idleTimer (x : Slot) (c : SlotConfig) : (x.configured c).idleTimer =
    if x.config.idleAction = .none ∧ c.idleAction = .sleep ∧ x.state = .running
      then some (c.idleLimit * 1000)
      else if x.config.idleAction = .sleep ∧ c.idleAction = .none then none else x.idleTimer := by
  simp only [Slot.configured, freshIdle_eq, beq_iff_eq]
  cases x.config.idleAction <;> cases c.idleAction <;> simp

/-- A slot in RUNNING whose supervision does not run takes it up with the new interval (R99). -/
theorem configured_restarts (x : Slot) :
    ((x.state == .running && x.heartbeat.isNone) = true) ↔ x.state = .running ∧ x.heartbeat = none := by
  rw [Bool.and_eq_true, beq_iff_eq, Option.isNone_iff_eq_none]

theorem configured_heartbeat (x : Slot) (c : SlotConfig) : (x.configured c).heartbeat =
    if c.supervisionInterval = 0 then none
      else if x.state = .running ∧ x.heartbeat = none
      then some (c.supervisionInterval * 100) else x.heartbeat := by
  simp only [Slot.configured, configured_restarts, SlotConfig.freshHeartbeat]
  by_cases h : c.supervisionInterval = 0
  · rw [if_pos h, if_pos h]
  · rw [if_neg h, if_neg h, if_neg h]

theorem configured_expiredOnce (x : Slot) (c : SlotConfig) : (x.configured c).expiredOnce =
    if c.supervisionInterval = 0 then false
      else if x.state = .running ∧ x.heartbeat = none then false else x.expiredOnce := by
  simp only [Slot.configured, configured_restarts]

/-- A new configuration touches the two timers and the mark alone. -/
theorem configured_eq (x : Slot) (c : SlotConfig) : x.configured c = { x with
    config := c
    idleTimer := (x.configured c).idleTimer
    heartbeat := (x.configured c).heartbeat
    expiredOnce := (x.configured c).expiredOnce } := rfl

/-! ### SLOT_CONFIG (R58) -/

theorem slotConfig_of_range {s : State} {b : Byte} {i : SlotId} {c : SlotConfig}
    (hb : b.toNat = i.val + 1) (hc : c.inRange) : slotConfig (b :: c.bytes) s =
      answer .done (s.setSlot i ((s.slot i).configured c)) := by
  have hlength : c.bytes.length = 19 := rfl
  simp only [slotConfig, hlength, if_true, slotField_of_number hb, slotConfigField_bytes hc]

/-- A request with any value out of range is refused and changes nothing. -/
theorem slotConfig_of_outside {b : Byte} {block : List Byte} (s : State) (hlength : block.length = 19)
    (h : (b.toNat = 0 ∨ 6 < b.toNat) ∨ ∀ c : SlotConfig, c.inRange → block ≠ c.bytes) :
    slotConfig (b :: block) s = answer .badValue s := by
  simp only [slotConfig, hlength, if_true]
  split
  · rename_i hslot hconfig
    exfalso
    rcases h with h | h
    · rw [slotField_of_outside h] at hslot; cases hslot
    · obtain ⟨hrange, hbytes⟩ := eq_bytes_of_slotConfigField hconfig
      exact h _ hrange hbytes
  · rfl

/-- Settles O45: a block is read exactly when it is that of a configuration in range. -/
theorem slotConfigSetsAllFields : Obligations.SlotConfigSetsAllFields := by
  intro s seq b h
  have hlen : ∀ {block : List Byte}, block.length = 19 →
      (b :: block).length + 1 = ReqCode.slotConfig.length := fun hb => by
    rw [List.length_cons, hb]; rfl
  refine ⟨fun i c hb hc => ?_, fun block hblock hout => ?_, slotConfig_bytes⟩
  · dsimp only
    rw [← configured_idleTimer, ← configured_heartbeat, ← configured_expiredOnce, ← configured_eq]
    exact exec_answer (c := .slotConfig) h (hlen rfl) (slotConfig_of_range hb hc) rfl
  · exact exec_answer (c := .slotConfig) h (hlen hblock) (slotConfig_of_outside s hblock hout) rfl

end Sys2Proof.Machine
end

section
/-! PROOF. The loss of the main rail (R119): what one slot's going down leaves, and what all of them together
leave, part by part of State. -/

namespace Sys2Proof.Machine

/-! ### A step taken slot by slot -/

/-- A step that is taken slot by slot acts on each slot at most once, and what it makes of a slot depends on no
other: `read` is what is read of a slot, `make` what an acting step writes there, `good` what every step
keeps. -/
structure ActsOnce {α : Type} (good : State → Prop) (step : State → SlotId → State)
    (acts : State → SlotId → Prop) (read make : State → SlotId → α) : Prop where
  keeps : ∀ {s j}, good s → good (step s j)
  acting : ∀ {s i}, good s → acts s i → read (step s i) i = make s i
  idle : ∀ {s i}, good s → ¬ acts s i → read (step s i) i = read s i
  other : ∀ {s i j}, good s → i ≠ j →
    read (step s j) i = read s i ∧ make (step s j) i = make s i
  once : ∀ {s i j}, good s → (acts (step s j) i ↔ acts s i ∧ i ≠ j)

/-- What is read of a slot after all steps. -/
theorem ActsOnce.foldl {α : Type} {good : State → Prop} {step : State → SlotId → State}
    {acts : State → SlotId → Prop} [∀ s i, Decidable (acts s i)] {read make : State → SlotId → α}
    (h : ActsOnce good step acts read make) (l : List SlotId) {s : State} (hs : good s) (i : SlotId) :
    read (l.foldl step s) i = if i ∈ l ∧ acts s i then make s i else read s i := by
  induction l generalizing s with
  | nil => simp
  | cons j l ih =>
    rw [List.foldl_cons, ih (h.keeps hs)]
    simp only [h.once hs, List.mem_cons]
    by_cases hij : i = j
    · subst hij
      simp only [ne_eq, not_true_eq_false, and_false, if_false, true_or, true_and]
      by_cases hi : acts s i
      · rw [if_pos hi, h.acting hs hi]
      · rw [if_neg hi, h.idle hs hi]
    · obtain ⟨hread, hmake⟩ := h.other hs hij
      simp only [hij, hread, hmake, ne_eq, not_false_eq_true, and_true, false_or]

/-! ### The record of an occurrence -/

/-- An occurrence changes an entry's latch alone (R9, R10). -/
theorem record_eq (x : Entry) (now : Word) (d : Option Half) :
    x.record now d = { x with latch := (x.record now d).latch } := by
  unfold Entry.record
  split <;> rfl

theorem transitionEntry_inj {i j : SlotId} : transitionEntry i = transitionEntry j ↔ i = j := by
  simp only [transitionEntry, Fin.ext_iff]
  omega

/-! ### One slot -/

theorem Slot.state_of_unheld {x y : Slot} (h : y.unheld = x.unheld) : y.state = x.state := by
  have hstate := congrArg Slot.state h
  exact hstate

/-- The slot goes down with the rail (R119, steps 2 and 3). -/
abbrev State.goesDown (s : State) (i : SlotId) : Prop := s.lifeOf i ≠ .off ∧ s.lifeOf i ≠ .faulted

/-- The record of a slot that the rail takes (R119, step 2). -/
def Slot.railTaken (x : Slot) (now : Word) : Slot :=
  { x with stateAtLoss := some x.state }.moved .off .railLoss now none

theorem railTaken_unheld (x : Slot) (now : Word) : (x.railTaken now).unheld = x.unheld.railTaken now := rfl

/-- The off timer starts where the rail was on (R53). -/
theorem railTaken_eq {x : Slot} (now : Word) (h : x.state ≠ .off ∧ x.state ≠ .faulted) :
    x.railTaken now = { x with
      state := .off
      last := some { cause := .railLoss, time := now }
      step := none
      offTimer := if x.state = .queued then x.offTimer else 0
      stateAtLoss := some x.state
      deferredWake := none
      pendingSleep := none
      verdictTimer := none
      idleTimer := none
      heartbeat := none
      expiredOnce := false } := by
  have hoff : (if x.state.railOn = true ∧ LifeState.off.railOn = false then 0 else x.offTimer) =
      if x.state = .queued then x.offTimer else 0 := by
    by_cases hq : x.state = .queued
    · rw [if_pos hq, if_neg (by rw [hq]; decide)]
    · rw [if_neg hq, if_pos ⟨(railOn_iff _).mpr ⟨h.1, hq, h.2⟩, rfl⟩]
  rw [Slot.railTaken, moved_eq, hoff]
  rfl

theorem railTakes_of_up {s : State} {i : SlotId} (h : ¬ s.goesDown i) : railTakes s i = s := by
  unfold railTakes
  split
  case h_1 | h_2 => rfl
  all_goals exact absurd (by simp [State.goesDown, *]) h

theorem railTakes_of_down {s : State} {i : SlotId} (h : s.goesDown i) : railTakes s i =
    enter i .off .railLoss none (s.setSlot i { s.slot i with stateAtLoss := some (s.lifeOf i) }) := by
  unfold railTakes
  split
  case h_1 heq => exact absurd heq h.1
  case h_2 heq => exact absurd heq h.2
  all_goals rfl

theorem railTakes_unheld_self {s : State} {i : SlotId} (h : s.goesDown i) :
    ((railTakes s i).slot i).unheld = ((s.slot i).railTaken s.uptime).unheld := by
  rw [railTakes_of_down h, enter_unheld, State.slot_setSlot]
  rfl

theorem railTakes_unheld_ne {s : State} {i j : SlotId} (h : i ≠ j) :
    ((railTakes s j).slot i).unheld = (s.slot i).unheld := by
  by_cases hd : s.goesDown j
  · rw [railTakes_of_down hd, enter_unheld_ne _ _ _ _ h, State.slot_setSlot_ne _ _ h]
  · rw [railTakes_of_up hd]

/-- A slot that has been taken down is OFF, and no other slot changes state. -/
theorem railTakes_goesDown (s : State) (i j : SlotId) :
    (railTakes s j).goesDown i ↔ s.goesDown i ∧ i ≠ j := by
  by_cases h : i = j
  · subst h
    by_cases hd : s.goesDown i
    · have hoff : (railTakes s i).lifeOf i = .off := by rw [railTakes_of_down hd, enter_lifeOf]
      simp [State.goesDown, hoff]
    · simp only [railTakes_of_up hd, hd, false_and]
  · have hsame : (railTakes s j).lifeOf i = s.lifeOf i := Slot.state_of_unheld (railTakes_unheld_ne h)
    simp [State.goesDown, hsame, h]

theorem railTakes_entry_self {s : State} {i : SlotId} (h : s.goesDown i) :
    (railTakes s i).entry (transitionEntry i) =
      (s.entry (transitionEntry i)).record s.uptime (some 0x000B) := by
  rw [railTakes_of_down h, enter_entry_of_reported _ _ _ rfl]
  rfl

theorem railTakes_entry_ne {s : State} {j : SlotId} {e : EntryId} (h : e ≠ transitionEntry j) :
    (railTakes s j).entry e = s.entry e := by
  by_cases hd : s.goesDown j
  · rw [railTakes_of_down hd, enter_entry_ne _ _ _ _ h]; rfl
  · rw [railTakes_of_up hd]

theorem railTakes_uptime (s : State) (i : SlotId) : (railTakes s i).uptime = s.uptime :=
  uptime_of_outside (railTakes_outside s i)

/-! ### All slots -/

theorem railTakes_foldl_unheld (l : List SlotId) (s : State) (i : SlotId) :
    ((l.foldl railTakes s).slot i).unheld =
      if i ∈ l ∧ s.goesDown i then ((s.slot i).railTaken s.uptime).unheld else (s.slot i).unheld :=
  ActsOnce.foldl (good := fun _ => True) (acts := State.goesDown)
    (read := fun s i => (s.slot i).unheld) (make := fun s i => ((s.slot i).railTaken s.uptime).unheld)
    { keeps := fun _ => trivial
      acting := fun _ hi => railTakes_unheld_self hi
      idle := fun _ hi => by rw [railTakes_of_up hi]
      other := fun {s _ j} _ hij => ⟨railTakes_unheld_ne hij, by
        rw [railTaken_unheld, railTaken_unheld, railTakes_unheld_ne hij, railTakes_uptime s j]⟩
      once := fun _ => railTakes_goesDown .. } l trivial i

theorem railTakes_foldl_entry (l : List SlotId) (s : State) (i : SlotId) :
    (l.foldl railTakes s).entry (transitionEntry i) =
      if i ∈ l ∧ s.goesDown i
      then (s.entry (transitionEntry i)).record s.uptime (some 0x000B)
      else s.entry (transitionEntry i) :=
  ActsOnce.foldl (good := fun _ => True) (acts := State.goesDown)
    (read := fun s i => s.entry (transitionEntry i))
    (make := fun s i => (s.entry (transitionEntry i)).record s.uptime (some 0x000B))
    { keeps := fun _ => trivial
      acting := fun _ hi => railTakes_entry_self hi
      idle := fun _ hi => by rw [railTakes_of_up hi]
      other := fun {s _ j} _ hij => by
        have hsame := railTakes_entry_ne (s := s) fun e => hij (transitionEntry_inj.mp e)
        exact ⟨hsame, by rw [hsame, railTakes_uptime s j]⟩
      once := fun _ => railTakes_goesDown .. } l trivial i

theorem railTakes_foldl_entry_of_other (l : List SlotId) (s : State) {e : EntryId}
    (h : ∀ i, e ≠ transitionEntry i) : (l.foldl railTakes s).entry e = s.entry e :=
  foldl_keeps (State.entry · e) _ (fun _ i => railTakes_entry_ne (h i)) l s

/-! ### The Staging Unit -/

/-- The stagger timer as it starts (R116). -/
def Staging.gapTimer (u : Staging) : Option Nat :=
  if u.staggerGap = 0 then none else some (u.staggerGap * 10)

/-- Of what a transition to OFF changes, a loss leaves the stagger timer alone (R116, R119). -/
theorem told_off_emptied (u : Staging) (i : SlotId) (before : LifeState) (cause : Cause) :
    (u.told i before .off cause).emptied = { u.emptied with
      staggerTimer := if before.inPowerUp = true then u.gapTimer else u.staggerTimer } := by
  rw [told_eq]
  cases before.inPowerUp <;> rfl

/-- A slot that goes down ends a power-up, and the loss empties the rest of what its transition changes (R116,
R119). -/
theorem railTakes_emptied (s : State) (i : SlotId) : (railTakes s i).staging.emptied =
    { s.staging.emptied with
      staggerTimer := if (s.lifeOf i).inPowerUp = true then s.staging.gapTimer
        else s.staging.staggerTimer } := by
  by_cases hd : s.goesDown i
  · have hlife : (s.setSlot i { s.slot i with stateAtLoss := some (s.lifeOf i) }).lifeOf i =
        s.lifeOf i := by rw [State.lifeOf, State.slot_setSlot]; rfl
    rw [railTakes_of_down hd, enter_staging, hlife, told_off_emptied]
    rfl
  · have hlow : ¬ (s.lifeOf i).inPowerUp = true := fun h =>
      hd (by rcases (inPowerUp_iff _).mp h with h | h <;> rw [State.goesDown, h] <;> decide)
    rw [railTakes_of_up hd, if_neg hlow]
    rfl

theorem railTakes_staggerTimer (s : State) (i : SlotId) : (railTakes s i).staging.staggerTimer =
    if (s.lifeOf i).inPowerUp = true then s.staging.gapTimer else s.staging.staggerTimer :=
  congrArg Staging.staggerTimer (railTakes_emptied s i)

theorem railTakes_gapTimer (s : State) (i : SlotId) :
    (railTakes s i).staging.gapTimer = s.staging.gapTimer := by
  have hgap := congrArg Staging.gapTimer (railTakes_emptied s i)
  exact hgap

/-- With no power-up to end, every slot that was in one still is. -/
theorem railTakes_inPowerUp {s : State} {j : SlotId} (h : ¬ (s.lifeOf j).inPowerUp = true)
    (i : SlotId) : ((railTakes s j).lifeOf i).inPowerUp = (s.lifeOf i).inPowerUp := by
  by_cases hij : i = j
  · subst hij
    by_cases hd : s.goesDown i
    · rw [railTakes_of_down hd, enter_lifeOf, Bool.eq_false_iff.mpr h]; rfl
    · rw [railTakes_of_up hd]
  · exact congrArg LifeState.inPowerUp (Slot.state_of_unheld (railTakes_unheld_ne hij))

theorem railTakes_foldl_emptied (l : List SlotId) (s : State) :
    (l.foldl railTakes s).staging.emptied = { s.staging.emptied with
      staggerTimer := if ∃ i ∈ l, (s.lifeOf i).inPowerUp = true then s.staging.gapTimer
        else s.staging.staggerTimer } := by
  induction l generalizing s with
  | nil => simp [Staging.emptied]
  | cons j l ih =>
    rw [List.foldl_cons, ih, railTakes_gapTimer, railTakes_staggerTimer, railTakes_emptied]
    by_cases h : (s.lifeOf j).inPowerUp = true
    · simp only [h, if_true, ite_self, List.mem_cons, exists_eq_or_imp, true_or]
    · simp only [h, Bool.false_eq_true, if_false, railTakes_inPowerUp h, List.mem_cons,
        exists_eq_or_imp, false_or]

/-! ### The loss -/

theorem railLost_unheld (s : State) (i : SlotId) : ((railLost s).slot i).unheld =
    if s.goesDown i then ((s.slot i).railTaken s.uptime).unheld else (s.slot i).unheld := by
  rw [railLost, occur_unheld, State.slot_setStaging, railTakes_foldl_unheld]
  simp only [List.mem_finRange, true_and]

theorem railLost_staging (s : State) : (railLost s).staging = { s.staging.emptied with
    staggerTimer := if ∃ i : SlotId, s.lifeOf i = .powering ∨ s.lifeOf i = .releasing
      then s.staging.gapTimer else s.staging.staggerTimer } := by
  rw [railLost, occur_staging, State.setStaging_staging, railTakes_foldl_emptied]
  simp only [List.mem_finRange, true_and, inPowerUp_iff]

theorem railLost_entry_ne (s : State) {e : EntryId} (h : e ≠ railLostEntry) :
    (railLost s).entry e = ((List.finRange 6).foldl railTakes s).entry e := by
  rw [railLost, occur_entry_ne _ _ h, State.entry_setStaging]

theorem transitionEntry_ne_railLostEntry (i : SlotId) : transitionEntry i ≠ railLostEntry := by
  revert i; decide

/-- The transition entry of a slot tells of its going down (R56, R119). -/
theorem railLost_entry_transition (s : State) (i : SlotId) : (railLost s).entry (transitionEntry i) =
    if s.goesDown i then (s.entry (transitionEntry i)).record s.uptime (some 0x000B)
      else s.entry (transitionEntry i) := by
  rw [railLost_entry_ne s (transitionEntry_ne_railLostEntry i), railTakes_foldl_entry]
  simp only [List.mem_finRange, true_and]

theorem railLost_entry_of_other (s : State) {e : EntryId} (h : e ≠ railLostEntry)
    (hi : ∀ i, e ≠ transitionEntry i) : (railLost s).entry e = s.entry e := by
  rw [railLost_entry_ne s h, railTakes_foldl_entry_of_other _ _ hi]

/-- The rail's own entry takes its occurrence (R119, step 5). -/
theorem railLost_entry_rail (s : State) : ∃ now,
    (railLost s).entry railLostEntry = (s.entry railLostEntry).record now none := by
  rw [railLost, occur_entry, State.entry_setStaging, railTakes_foldl_entry_of_other _ _ fun i h =>
    transitionEntry_ne_railLostEntry i h.symm]
  exact ⟨_, rfl⟩

/-- A loss changes the latch of an entry alone. -/
theorem railLost_entry_configuration (s : State) (e : EntryId) :
    (railLost s).entry e = { s.entry e with latch := ((railLost s).entry e).latch } := by
  by_cases hrail : e = railLostEntry
  · subst hrail
    obtain ⟨now, h⟩ := railLost_entry_rail s
    rw [h]; exact record_eq ..
  · by_cases hi : ∃ i, e = transitionEntry i
    · obtain ⟨i, rfl⟩ := hi
      rw [railLost_entry_transition]
      split
      · exact record_eq ..
      · rfl
    · rw [railLost_entry_of_other s hrail fun i h => hi ⟨i, h⟩]

end Sys2Proof.Machine
end

section
/-! PROOF. The return of the main rail (R120, R121): what the resume policy of one slot does, and what those of
all slots leave; and the rows of MAINGOOD and of the settle (O57). -/

namespace Sys2Proof.Machine

/-! ### A claim from OFF -/

/-- A slot that goes from OFF to QUEUED keeps its off timer, its rail being off (R53). -/
theorem moved_queued_of_off {x : Slot} (cause : Cause) (now : Word) (h : x.state = .off) :
    x.moved .queued cause now none = { x with
      state := .queued
      last := some { cause := cause, time := now }
      step := none
      deferredWake := none
      pendingSleep := none
      verdictTimer := none
      idleTimer := none
      heartbeat := none
      expiredOnce := false } := by
  have hrail : ¬ ((x.state.railOn && !LifeState.queued.railOn) = true) := by rw [h]; decide
  rw [Slot.moved, if_neg hrail]
  rfl

/-- The Staging Unit is told nothing by a transition from OFF to QUEUED. -/
theorem told_queued_of_off (u : Staging) (i : SlotId) (cause : Cause) :
    u.told i .off .queued cause = u := by
  rw [told_eq]
  rfl

/-- A claim from OFF moves the slot's record and adds a place to the start queue, and does nothing else (R60,
R114). -/
theorem enqueue_of_off {s : State} {i : SlotId} (o : QueueOrigin) (h : s.lifeOf i = .off) :
    enqueue i o s = (s.setSlot i ((s.slot i).moved .queued o.cause s.uptime none)).setStaging
      { s.staging with startQueue := s.staging.startQueue ++ [{ slot := i, origin := o }] } := by
  rw [enqueue, enter_of_unreported _ _ _ rfl, h, told_queued_of_off]
  rfl

/-! ### The resume policy of one slot (R121) -/

/-- The slot is queued at the rail's return. -/
abbrev State.resumes (s : State) (i : SlotId) : Prop :=
  s.lifeOf i = .off ∧ (s.lineSet i).present.level = true ∧ (s.slot i).override = false ∧
    ((s.slot i).config.resumePolicy = .on ∨
      ((s.slot i).config.resumePolicy = .restore ∧ (s.slot i).stateAtLoss.isSome = true))

/-- The origin with which the slot is queued, when that of policy ON is `onOrigin`. -/
def State.resumeOrigin (s : State) (onOrigin : QueueOrigin) (i : SlotId) : QueueOrigin :=
  if (s.slot i).config.resumePolicy = .on then onOrigin else .resume

theorem autoClaimable_iff {s : State} (hrail : s.railGood = true) (i : SlotId) :
    s.autoClaimable i = true ↔ s.lifeOf i = .off ∧ (s.lineSet i).present.level = true ∧
      (s.slot i).override = false := by
  simp only [State.autoClaimable, State.claimable, State.isPresent, hrail, Bool.and_true,
    Bool.and_eq_true, beq_iff_eq, Bool.not_eq_true', and_assoc]

theorem resume_of_resumes {s : State} {i : SlotId} (o : QueueOrigin) (hrail : s.railGood = true)
    (h : s.resumes i) : resume o s i = enqueue i (s.resumeOrigin o i) s := by
  obtain ⟨hoff, hpresent, hoverride, hpolicy⟩ := h
  rw [resume, if_pos ((autoClaimable_iff hrail i).mpr ⟨hoff, hpresent, hoverride⟩), State.resumeOrigin]
  rcases hpolicy with hon | ⟨hrestore, hloss⟩
  · rw [hon]; rfl
  · obtain ⟨l, hl⟩ := Option.isSome_iff_exists.mp hloss
    rw [hrestore, hl]; rfl

theorem resume_of_not_resumes {s : State} {i : SlotId} (o : QueueOrigin) (hrail : s.railGood = true)
    (h : ¬ s.resumes i) : resume o s i = s := by
  unfold resume
  split
  · rename_i hclaim
    obtain ⟨hoff, hpresent, hoverride⟩ := (autoClaimable_iff hrail i).mp hclaim
    split
    case h_1 | h_2 => rfl
    case h_3 hrestore hloss =>
      exact absurd ⟨hoff, hpresent, hoverride, .inr ⟨hrestore, by rw [hloss]; rfl⟩⟩ h
    case h_4 hon => exact absurd ⟨hoff, hpresent, hoverride, .inl hon⟩ h
  · rfl

section One

variable {s : State} (o : QueueOrigin) (hrail : s.railGood = true)
include hrail

theorem resume_slot_self {i : SlotId} (h : s.resumes i) : (resume o s i).slot i =
    (s.slot i).moved .queued (s.resumeOrigin o i).cause s.uptime none := by
  rw [resume_of_resumes o hrail h, enqueue_of_off _ h.1, State.slot_setStaging, State.slot_setSlot]

theorem resume_slot_ne {i j : SlotId} (h : i ≠ j) : (resume o s j).slot i = s.slot i := by
  by_cases hj : s.resumes j
  · rw [resume_of_resumes o hrail hj, enqueue_of_off _ hj.1, State.slot_setStaging,
      State.slot_setSlot_ne _ _ h]
  · rw [resume_of_not_resumes o hrail hj]

theorem resume_staging (j : SlotId) : (resume o s j).staging = { s.staging with
    startQueue := s.staging.startQueue ++
      if s.resumes j then [{ slot := j, origin := s.resumeOrigin o j }] else [] } := by
  by_cases hj : s.resumes j
  · rw [resume_of_resumes o hrail hj, enqueue_of_off _ hj.1, if_pos hj, State.setStaging_staging]
  · rw [resume_of_not_resumes o hrail hj, if_neg hj, List.append_nil]

theorem resume_entries (j : SlotId) : (resume o s j).entries = s.entries := by
  by_cases hj : s.resumes j
  · rw [resume_of_resumes o hrail hj, enqueue_of_off _ hj.1]; rfl
  · rw [resume_of_not_resumes o hrail hj]

theorem resume_railGood (j : SlotId) : (resume o s j).railGood = true := by
  rw [State.railGood, resume_staging o hrail j]; exact hrail

/-- A slot that has been queued resumes no more, and the policy of every other stands. -/
theorem resume_resumes (i j : SlotId) : (resume o s j).resumes i ↔ s.resumes i ∧ i ≠ j := by
  by_cases h : i = j
  · subst h
    by_cases hi : s.resumes i
    · have hqueued : (resume o s i).lifeOf i = .queued := by
        rw [State.lifeOf, resume_slot_self o hrail hi]; rfl
      simp [State.resumes, hqueued]
    · simp only [resume_of_not_resumes o hrail hi, hi, false_and]
  · simp only [State.resumes, State.lifeOf, resume_slot_ne o hrail h,
      lineSet_of_outside (resume_outside o s j), h, ne_eq, not_false_eq_true, and_true]

theorem resume_resumeOrigin {i j : SlotId} (h : i ≠ j) :
    (resume o s j).resumeOrigin o i = s.resumeOrigin o i := by
  rw [State.resumeOrigin, resume_slot_ne o hrail h]; rfl

end One

/-! ### The resume policies of all slots -/

theorem resume_uptime (o : QueueOrigin) (s : State) (i : SlotId) : (resume o s i).uptime = s.uptime :=
  uptime_of_outside (resume_outside o s i)

theorem resume_foldl_slot (o : QueueOrigin) (l : List SlotId) {s : State} (hrail : s.railGood = true)
    (i : SlotId) : (l.foldl (resume o) s).slot i =
      if i ∈ l ∧ s.resumes i
      then (s.slot i).moved .queued (s.resumeOrigin o i).cause s.uptime none else s.slot i :=
  ActsOnce.foldl (good := fun s => s.railGood = true) (acts := State.resumes) (read := State.slot)
    (make := fun s i => (s.slot i).moved .queued (s.resumeOrigin o i).cause s.uptime none)
    { keeps := fun hs => resume_railGood o hs _
      acting := fun hs hi => resume_slot_self o hs hi
      idle := fun hs hi => by rw [resume_of_not_resumes o hs hi]
      other := fun {s _ j} hs hij => ⟨resume_slot_ne o hs hij, by
        rw [resume_slot_ne o hs hij, resume_resumeOrigin o hs hij, resume_uptime o s j]⟩
      once := fun hs => resume_resumes o hs _ _ } l hrail i

/-- The slots that resume join the start queue in the order of the list (R120). -/
theorem resume_foldl_staging (o : QueueOrigin) {l : List SlotId} (hl : l.Nodup) {s : State}
    (hrail : s.railGood = true) : (l.foldl (resume o) s).staging = { s.staging with
      startQueue := s.staging.startQueue ++ (l.filter fun i => decide (s.resumes i)).map
        fun i => { slot := i, origin := s.resumeOrigin o i } } := by
  induction l generalizing s with
  | nil => simp
  | cons j l ih =>
    obtain ⟨hj, hl⟩ := List.nodup_cons.mp hl
    have hne : ∀ i ∈ l, i ≠ j := fun i hi e => hj (e ▸ hi)
    have hfilter : (l.filter fun i => decide ((resume o s j).resumes i)) =
        l.filter fun i => decide (s.resumes i) :=
      List.filter_congr fun i hi => decide_eq_decide.mpr
        ((resume_resumes o hrail i j).trans (and_iff_left (hne i hi)))
    have hmap : ((l.filter fun i => decide (s.resumes i)).map fun i =>
        ({ slot := i, origin := (resume o s j).resumeOrigin o i } : QueuePlace)) =
        (l.filter fun i => decide (s.resumes i)).map fun i =>
          { slot := i, origin := s.resumeOrigin o i } :=
      List.map_congr_left fun i hi => by
        rw [resume_resumeOrigin o hrail (hne i (List.mem_of_mem_filter hi))]
    rw [List.foldl_cons, ih hl (resume_railGood o hrail j), hfilter, hmap, resume_staging o hrail]
    by_cases h : s.resumes j
    · rw [if_pos h, List.filter_cons_of_pos (p := fun i => decide (s.resumes i)) (decide_eq_true h),
        List.map_cons]
      simp only [List.append_assoc, List.singleton_append]
    · rw [if_neg h, List.filter_cons_of_neg (p := fun i => decide (s.resumes i))
        fun hj => h (of_decide_eq_true hj)]
      simp only [List.append_nil]

theorem resume_foldl_entries (o : QueueOrigin) (l : List SlotId) {s : State}
    (hrail : s.railGood = true) : (l.foldl (resume o) s).entries = s.entries := by
  induction l generalizing s with
  | nil => rfl
  | cons j l ih => rw [List.foldl_cons, ih (resume_railGood o hrail j), resume_entries o hrail]

/-! ### The return (R120) -/

/-- The rail is GOOD and its settle has ended (R120, step 1). -/
def State.railMadeGood (s : State) : State :=
  s.setStaging { s.staging with rail := .good, settleTimer := none }

/-- The resume policies have been read in ascending order (R120, step 2). -/
def State.queuedByPolicy (s : State) : State :=
  (List.finRange 6).foldl (resume s.onOrigin) s.railMadeGood

/-- The recorded states and the first-return mark are clear (R120, steps 3 and 4). -/
def State.resumed (s : State) : State :=
  let forgotten := s.queuedByPolicy.mapSlots fun _ x => { x with stateAtLoss := none }
  forgotten.setStaging { forgotten.staging with firstReturn := false }

theorem queuedByPolicy_outside (s : State) : s.queuedByPolicy.outside = s.outside := by
  rw [State.queuedByPolicy, foldl_keeps State.outside _ (resume_outside _)]; rfl

theorem queuedByPolicy_entries (s : State) : s.queuedByPolicy.entries = s.entries := by
  rw [State.queuedByPolicy, resume_foldl_entries _ _ rfl]; rfl

theorem queuedByPolicy_slot (s : State) (i : SlotId) : s.queuedByPolicy.slot i =
    if s.resumes i then (s.slot i).moved .queued (s.resumeOrigin s.onOrigin i).cause s.uptime none
      else s.slot i := by
  rw [State.queuedByPolicy, resume_foldl_slot _ _ rfl]
  simp only [List.mem_finRange, true_and]
  rfl

theorem queuedByPolicy_staging (s : State) : s.queuedByPolicy.staging = { s.staging with
    rail := .good
    settleTimer := none
    startQueue := s.staging.startQueue ++ ((List.finRange 6).filter fun i => decide (s.resumes i)).map
      fun i => { slot := i, origin := s.resumeOrigin s.onOrigin i } } := by
  rw [State.queuedByPolicy, resume_foldl_staging _ (List.nodup_finRange 6) rfl]
  rfl

theorem resumed_slot (s : State) (i : SlotId) :
    s.resumed.slot i = { s.queuedByPolicy.slot i with stateAtLoss := none } := by
  rw [State.resumed, State.slot_setStaging, State.slot_mapSlots]

theorem resumed_staging (s : State) :
    s.resumed.staging = { s.queuedByPolicy.staging with firstReturn := false } := by
  rw [State.resumed, State.setStaging_staging, State.mapSlots_staging]

theorem resumed_entries (s : State) : s.resumed.entries = s.entries := by
  rw [State.resumed, State.setStaging_entries, State.mapSlots_entries, queuedByPolicy_entries]

theorem resumed_hot (s : State) : s.resumed.hot = s.board.therm.level := by
  rw [State.resumed, State.hot_setStaging, State.hot_mapSlots, State.hot,
    board_of_outside (queuedByPolicy_outside s)]

/-- Escalation starts where the rail returns to a hot part with shedding enabled (R120, step 6). -/
theorem railReturns_eq (s : State) : railReturns s =
    let latched := occur railRestoredEntry none s.resumed
    if (latched.hot && latched.staging.shedEnable) = true
      then latched.setStaging latched.staging.escalating else latched := by
  dsimp only [railReturns, State.resumed, State.queuedByPolicy, State.railMadeGood]

theorem railReturns_unheld (s : State) (i : SlotId) :
    ((railReturns s).slot i).unheld = (s.resumed.slot i).unheld := by
  rw [railReturns_eq]
  dsimp only
  split
  · rw [State.slot_setStaging, occur_unheld]
  · rw [occur_unheld]

theorem railReturns_staging (s : State) : (railReturns s).staging = { s.resumed.staging with
    escalationTimer := if s.board.therm.level = true ∧ s.staging.shedEnable = true
      then some (s.staging.escalationInterval * 1000) else s.staging.escalationTimer } := by
  have hhot : (occur railRestoredEntry none s.resumed).hot = s.board.therm.level := by
    rw [State.hot, board_of_outside (occur_outside ..)]; exact resumed_hot s
  rw [railReturns_eq]
  dsimp only
  rw [occur_staging, hhot, resumed_staging, queuedByPolicy_staging]
  by_cases h : s.board.therm.level = true ∧ s.staging.shedEnable = true
  · rw [if_pos ((Bool.and_eq_true _ _).mpr h), if_pos h, State.setStaging_staging]; rfl
  · rw [if_neg fun he => h ((Bool.and_eq_true _ _).mp he), if_neg h, occur_staging, resumed_staging,
      queuedByPolicy_staging]

theorem railReturns_entry (s : State) (e : EntryId) :
    (railReturns s).entry e = (occur railRestoredEntry none s.resumed).entry e := by
  rw [railReturns_eq]
  dsimp only
  split
  · rw [State.entry_setStaging]
  · rfl

/-- The rail's own entry takes its occurrence (R120, step 5). -/
theorem railReturns_entry_rail (s : State) : ∃ now,
    (railReturns s).entry railRestoredEntry = (s.entry railRestoredEntry).record now none := by
  rw [railReturns_entry, occur_entry, entry_of_entries (resumed_entries s)]
  exact ⟨_, rfl⟩

/-- A return changes the latch of that entry alone. -/
theorem railReturns_entry_configuration (s : State) : (railReturns s).entry railRestoredEntry =
    { s.entry railRestoredEntry with
      latch := ((railReturns s).entry railRestoredEntry).latch } := by
  obtain ⟨now, h⟩ := railReturns_entry_rail s
  rw [h]; exact record_eq ..

theorem railReturns_entry_ne (s : State) {e : EntryId} (h : e ≠ railRestoredEntry) :
    (railReturns s).entry e = s.entry e := by
  rw [railReturns_entry, occur_entry_ne _ _ h, entry_of_entries (resumed_entries s)]

/-- Policy ON queues with AUTOSTART at the first return with the strap sampled high (R121). -/
theorem resumeOrigin_eq (s : State) (i : SlotId) : s.resumeOrigin s.onOrigin i =
    if (s.slot i).config.resumePolicy = .on ∧ s.staging.firstReturn = true ∧ s.session.autostart = true
      then .autostart else .resume := by
  simp only [State.resumeOrigin, State.onOrigin, Bool.and_eq_true, ite_and]

/-! ### MAINGOOD and the settle (R119, R120) -/

theorem mainGoodRises_of_settling {s : State}
    (h : s.staging.rail = .good ∨ s.staging.settleTimer.isSome = true) : mainGoodRises s = s := by
  unfold mainGoodRises
  split
  · rename_i hlost hnone
    rw [hlost, hnone] at h
    rcases h with h | h <;> cases h
  · rfl

theorem mainGoodRises_of_lost {s : State} (hrail : s.staging.rail = .lost)
    (htimer : s.staging.settleTimer = none) : mainGoodRises s =
      if s.staging.railSettle = 0 then railReturns s
      else s.setStaging { s.staging with settleTimer := some (s.staging.railSettle * 10) } := by
  simp only [mainGoodRises, hrail, htimer]

theorem mainGoodFalls_of_good {s : State} (hrail : s.staging.rail = .good) :
    mainGoodFalls s = railLost s := by simp only [mainGoodFalls, hrail]

theorem mainGoodFalls_of_lost {s : State} (hrail : s.staging.rail = .lost) :
    mainGoodFalls s = s.setStaging { s.staging with settleTimer := none } := by
  simp only [mainGoodFalls, hrail]

theorem settleRunsOut_eq (s : State) : settleRunsOut s =
    if s.staging.settleTimer.isSome = true then railReturns s else s := by
  cases h : s.staging.settleTimer <;>
    simp only [settleRunsOut, h, Option.isSome_none, Option.isSome_some, Bool.false_eq_true, if_false,
      if_true]

/-- Settles O57: the rows of MAINGOOD and the settle by the rail's state, the loss slot by slot from
`railTakes`, and the return slot by slot from `resume`. -/
theorem theRailIsLostAndReturns : Obligations.TheRailIsLostAndReturns := by
  refine ⟨fun s hrun => ?_, fun s => ?_, fun s => ?_⟩
  · intro taken
    have rise : s.board.mainGood.level = false → ∀ {t : State}, mainGoodRises (taken true) = t →
        exec .maingoodAssert s = .next t.concluded := fun hl _ ht =>
      run_lineTakes_of_edge (p := .mainGood) hrun rfl (Bool.eq_false_iff.mp hl) ht
    have fall : s.board.mainGood.level = true → ∀ {t : State}, mainGoodFalls (taken false) = t →
        exec .maingoodRelease s = .next t.concluded := fun hl _ ht =>
      run_lineTakes_of_edge (p := .mainGood) hrun rfl (by rw [hl]; decide) ht
    refine ⟨fun hl => run_lineTakes_of_level (p := .mainGood) hrun rfl hl,
      fun hl => ⟨fun h => rise hl (mainGoodRises_of_settling h), fun hrail htimer hsettle => ?_,
        fun hrail htimer hsettle => ?_⟩,
      fun hl => run_lineTakes_of_level (p := .mainGood) hrun rfl hl,
      fun hl => ⟨fun hrail => fall hl (mainGoodFalls_of_good hrail),
        fun hrail => fall hl (mainGoodFalls_of_lost hrail)⟩, ?_⟩
    · exact rise hl ((mainGoodRises_of_lost (s := taken true) hrail htimer).trans (if_neg hsettle))
    · exact rise hl ((mainGoodRises_of_lost (s := taken true) hrail htimer).trans (if_pos hsettle))
    · refine (run_of_running hrun).trans ?_
      rw [settleRunsOut_eq]
      split <;> rfl
  · intro t down
    refine ⟨railLost_staging s, fun i => ?_, fun i hi => ?_, ?_, fun e hrail hi => ?_,
      railLost_entry_configuration s, railLost_outside s⟩
    · have hslot := railLost_unheld s i
      by_cases hi : s.goesDown i
      · rw [if_pos hi, railTaken_eq _ hi] at hslot
        exact (Slot.eq_of_unheld hslot).trans (if_pos hi).symm
      · rw [if_neg hi] at hslot
        exact (Slot.eq_of_unheld hslot).trans (if_neg hi).symm
    · have hentry := railLost_entry_transition s i
      rw [if_pos hi] at hentry
      exact (congrArg (fun x : Entry => x.latch.bind Latch.detail) hentry).trans (record_detail ..)
    · obtain ⟨now, hentry⟩ := railLost_entry_rail s
      exact (congrArg Entry.latched hentry).trans (record_latched ..)
    · by_cases htransition : ∃ i, e = transitionEntry i
      · obtain ⟨i, rfl⟩ := htransition
        exact (railLost_entry_transition s i).trans (if_neg fun hd => hi i hd rfl)
      · exact railLost_entry_of_other s hrail fun i h => htransition ⟨i, h⟩
  · intro t resumes origin
    have horigin : ∀ i, s.resumeOrigin s.onOrigin i = origin i := resumeOrigin_eq s
    obtain ⟨now, hentry⟩ := railReturns_entry_rail s
    refine ⟨?_, fun i => ?_, (congrArg Entry.latched hentry).trans (record_latched ..),
      fun e he => railReturns_entry_ne s he, railReturns_entry_configuration s,
      railReturns_outside s⟩
    · refine (railReturns_staging s).trans ?_
      rw [resumed_staging, queuedByPolicy_staging]
      simp only [horigin]
      rfl
    · have hslot := railReturns_unheld s i
      rw [resumed_slot, queuedByPolicy_slot, horigin] at hslot
      by_cases hi : s.resumes i
      · rw [if_pos hi, moved_queued_of_off _ _ hi.1] at hslot
        exact (Slot.eq_of_unheld hslot).trans (if_pos hi).symm
      · rw [if_neg hi] at hslot
        exact (Slot.eq_of_unheld hslot).trans (if_neg hi).symm

end Sys2Proof.Machine
end

section
/-! PROOF. What follows on a step's own effect (R81, R115, R129, R150, R153, R171): the turns of the link, the release
of the waiting sleeps, the business of a step and the head of the start queue (O14). -/

namespace Sys2Proof.Machine

/-! ### The turns of the link (R150, R153) -/

theorem pump_of_none (n : Nat) {u : State} (h : (arbitrate u).takeable = none) :
    pump n u = arbitrate u := by
  cases n with
  | zero => rfl
  | succ n => simp only [pump, h]

theorem pump_of_some (n : Nat) {u : State} {r : Request} (h : (arbitrate u).takeable = some r) :
    pump (n + 1) u = pump n (dispatch r ((arbitrate u).setLink
      { (arbitrate u).link with queue := (arbitrate u).link.queue.tail })) := by
  simp only [pump, h]

theorem concluded_of_calm {u : State} (h : u.calm) : u.concluded = pump 4 u :=
  congrArg (pump 4) (finish_of_calm h)

/-! ### The sleeps that are to be released (R81) -/

theorem sleepReleasable_iff (x : Slot) : x.sleepReleasable = true ↔ ∃ p : PendingSleep,
    x.state = .sleepWait ∧ x.pendingSleep = some p ∧ p.verdictAwaited = false ∧ x.holds = 0 := by
  unfold Slot.sleepReleasable
  split
  case h_1 p hstate hpending => simp [hstate, hpending]
  case h_2 hother => exact ⟨nofun, fun ⟨p, hstate, hpending, _⟩ => absurd hpending (hother p hstate)⟩

theorem mem_sleepers {u : State} {i : SlotId} :
    i ∈ u.sleepers ↔ (u.slot i).sleepReleasable = true := by
  simp only [State.sleepers, List.mem_filter, List.mem_finRange, true_and]

theorem sleepers_ascending (u : State) : u.sleepers.Pairwise (fun i j => i < j) :=
  (List.pairwise_lt_finRange 6).filter _

/-- The slot waits in SLEEP_WAIT with a pending sleep record. -/
abbrev Slot.sleepWaits (x : Slot) : Prop := x.state = .sleepWait ∧ x.pendingSleep.isSome = true

theorem sleepWaits_of_unheld {x y : Slot} (h : y.unheld = x.unheld) : y.sleepWaits ↔ x.sleepWaits := by
  rw [Slot.eq_of_unheld h]

theorem sleepWaits_of_releasable {x : Slot} (h : x.sleepReleasable = true) : x.sleepWaits := by
  obtain ⟨p, hstate, hpending, -, -⟩ := (sleepReleasable_iff x).mp h
  exact ⟨hstate, by rw [hpending]; rfl⟩

/-! ### A sleep that begins (R86) -/

/-- The record of a slot whose sleep begins: it stands in ENTERING, and in ASLEEP where RDY is asserted. -/
def Slot.slept (x : Slot) (cause : Cause) (ready : Bool) (now : Word) : Slot :=
  let entering := x.moved .entering cause now
    (some { kind := .sleepEntry, left := x.config.sleepEntryLimit * 100 })
  if ready then entering.moved .asleep cause now none else entering

theorem slept_unheld (x : Slot) (cause : Cause) (ready : Bool) (now : Word) :
    (x.slept cause ready now).unheld = x.unheld.slept cause ready now := by cases ready <;> rfl

theorem slept_fields (x : Slot) (cause : Cause) (ready : Bool) (now : Word) :
    (x.slept cause ready now).state = (if ready then .asleep else .entering) ∧
      (x.slept cause ready now).last = some { cause := cause, time := now } ∧
      (x.slept cause ready now).pendingSleep = none ∧
      (x.slept cause ready now).verdictTimer = none := by
  cases ready <;> exact ⟨rfl, rfl, rfl, rfl⟩

theorem moved_unheld (x : Slot) (target : LifeState) (cause : Cause) (now : Word)
    (step : Option StepTimer) :
    (x.moved target cause now step).unheld = x.unheld.moved target cause now step := rfl

theorem beginEntering_unheld (i : SlotId) (cause : Cause) (s : State) :
    ((beginEntering i cause s).slot i).unheld =
      ((s.slot i).slept cause (s.lineSet i).rdy.level s.uptime).unheld := by
  rw [beginEntering_eq, Slot.slept]
  dsimp only
  split
  · rw [enter_unheld, moved_unheld, enter_unheld, uptime_of_outside (enter_outside ..)]; rfl
  · rw [enter_unheld]

theorem beginEntering_unheld_ne {i j : SlotId} (cause : Cause) (s : State) (hj : j ≠ i) :
    ((beginEntering i cause s).slot j).unheld = (s.slot j).unheld := by
  rw [beginEntering_eq]
  dsimp only
  split
  · rw [enter_unheld_ne _ _ _ _ hj, enter_unheld_ne _ _ _ _ hj]
  · rw [enter_unheld_ne _ _ _ _ hj]

/-- The Staging Unit is told nothing by a slot that goes from SLEEP_WAIT to sleep. -/
theorem beginEntering_staging {i : SlotId} {s : State} (cause : Cause) (h : s.lifeOf i = .sleepWait) :
    (beginEntering i cause s).staging = s.staging := by
  have hentering : ∀ u : Staging, u.told i .sleepWait .entering cause = u := fun u => by
    rw [told_eq]; rfl
  have hasleep : ∀ u : Staging, u.told i .entering .asleep cause = u := fun u => by
    rw [told_eq]; rfl
  rw [beginEntering_eq]
  dsimp only
  split
  · rw [enter_staging, enter_lifeOf, hasleep, enter_staging, h, hentering]
  · rw [enter_staging, h, hentering]

/-! ### The release of one sleep -/

/-- The cause with which a sleep waits (R76). -/
def Slot.waitingCause (x : Slot) : Cause := (x.pendingSleep.map fun p => p.origin.cause).getD .host

/-- The record of a slot whose waiting sleep is released (R81). -/
def State.releasedSlot (s : State) (i : SlotId) : Slot :=
  (s.slot i).slept (s.slot i).waitingCause (s.lineSet i).rdy.level s.uptime

section Release

variable {s : State} {i j : SlotId}

theorem releaseSleep_of_pending {p : PendingSleep} (hstate : s.lifeOf i = .sleepWait)
    (hp : (s.slot i).pendingSleep = some p) : releaseSleep s i = beginEntering i p.origin.cause s := by
  simp only [releaseSleep, hstate, hp]

theorem releaseSleep_of_waits (h : (s.slot i).sleepWaits) :
    releaseSleep s i = beginEntering i (s.slot i).waitingCause s := by
  obtain ⟨p, hp⟩ := Option.isSome_iff_exists.mp h.2
  rw [releaseSleep_of_pending h.1 hp, Slot.waitingCause, hp]
  rfl

theorem releaseSleep_of_not_waits (h : ¬ (s.slot i).sleepWaits) : releaseSleep s i = s := by
  unfold releaseSleep
  split
  case h_1 p hstate hp => exact absurd ⟨hstate, by rw [hp]; rfl⟩ h
  case h_2 => rfl

theorem releaseSleep_unheld_self (h : (s.slot i).sleepWaits) :
    ((releaseSleep s i).slot i).unheld = (s.releasedSlot i).unheld := by
  rw [releaseSleep_of_waits h, beginEntering_unheld, State.releasedSlot]

theorem releaseSleep_unheld_ne (h : i ≠ j) :
    ((releaseSleep s j).slot i).unheld = (s.slot i).unheld := by
  by_cases hw : (s.slot j).sleepWaits
  · rw [releaseSleep_of_waits hw, beginEntering_unheld_ne _ _ h]
  · rw [releaseSleep_of_not_waits hw]

/-- The release of one sleep leaves what that of another makes of its slot. -/
theorem releaseSleep_releasedSlot_ne (h : i ≠ j) :
    ((releaseSleep s j).releasedSlot i).unheld = (s.releasedSlot i).unheld := by
  have hslot := releaseSleep_unheld_ne (s := s) h
  have hcause : ((releaseSleep s j).slot i).waitingCause = (s.slot i).waitingCause := by
    rw [Slot.eq_of_unheld hslot]; rfl
  have hout := releaseSleep_outside s j
  rw [State.releasedSlot, State.releasedSlot, slept_unheld, slept_unheld, hslot, hcause,
    lineSet_of_outside hout, uptime_of_outside hout]

/-- A sleep that has been released waits no longer, and every other still does. -/
theorem releaseSleep_waits :
    ((releaseSleep s j).slot i).sleepWaits ↔ (s.slot i).sleepWaits ∧ i ≠ j := by
  by_cases h : i = j
  · subst h
    simp only [ne_eq, not_true_eq_false, and_false, iff_false]
    by_cases hw : (s.slot i).sleepWaits
    · rw [sleepWaits_of_unheld (releaseSleep_unheld_self hw)]
      obtain ⟨-, -, hnone, -⟩ := slept_fields (s.slot i) (s.slot i).waitingCause
        (s.lineSet i).rdy.level s.uptime
      rintro ⟨-, hsome⟩
      rw [State.releasedSlot, hnone] at hsome
      exact absurd hsome (by decide)
    · rwa [releaseSleep_of_not_waits hw]
  · rw [sleepWaits_of_unheld (releaseSleep_unheld_ne h)]
    exact (and_iff_left h).symm

theorem releaseSleep_staging (s : State) (i : SlotId) : (releaseSleep s i).staging = s.staging := by
  by_cases hw : (s.slot i).sleepWaits
  · rw [releaseSleep_of_waits hw, beginEntering_staging _ hw.1]
  · rw [releaseSleep_of_not_waits hw]

end Release

/-! ### The release of every sleep (R81) -/

theorem releaseSleep_foldl_unheld (l : List SlotId) (s : State) (i : SlotId) :
    ((l.foldl releaseSleep s).slot i).unheld =
      if i ∈ l ∧ (s.slot i).sleepWaits then (s.releasedSlot i).unheld else (s.slot i).unheld :=
  ActsOnce.foldl (good := fun _ => True) (acts := fun s i => (s.slot i).sleepWaits)
    (read := fun s i => (s.slot i).unheld) (make := fun s i => (s.releasedSlot i).unheld)
    { keeps := fun _ => trivial
      acting := fun _ hi => releaseSleep_unheld_self hi
      idle := fun _ hi => by rw [releaseSleep_of_not_waits hi]
      other := fun _ hij => ⟨releaseSleep_unheld_ne hij, releaseSleep_releasedSlot_ne hij⟩
      once := fun _ => releaseSleep_waits } l trivial i

theorem releaseSleeps_unheld_of_mem {u : State} {i : SlotId} {p : PendingSleep} (h : i ∈ u.sleepers)
    (hp : (u.slot i).pendingSleep = some p) : ((releaseSleeps u).slot i).unheld =
      ((u.slot i).slept p.origin.cause (u.lineSet i).rdy.level u.uptime).unheld := by
  rw [releaseSleeps, releaseSleep_foldl_unheld,
    if_pos ⟨h, sleepWaits_of_releasable (mem_sleepers.mp h)⟩, State.releasedSlot, Slot.waitingCause, hp]
  rfl

theorem releaseSleeps_unheld_of_not_mem {u : State} {i : SlotId} (h : i ∉ u.sleepers) :
    ((releaseSleeps u).slot i).unheld = (u.slot i).unheld := by
  rw [releaseSleeps, releaseSleep_foldl_unheld, if_neg fun hi => h hi.1]

theorem releaseSleeps_staging (u : State) : (releaseSleeps u).staging = u.staging :=
  foldl_keeps State.staging releaseSleep releaseSleep_staging _ u

theorem releaseSleeps_of_none {u : State} (h : u.sleepers = []) : releaseSleeps u = u := by
  rw [releaseSleeps, h]; rfl

/-! ### The business of a step (R129, R171) -/

section Business

variable {u : State}

theorem nextBusiness_of_between (h : u.staging.restore = .between) :
    nextBusiness u = some (restoreNext u) := if_pos h

theorem nextBusiness_of_wake {w : WakeRequest} {rest : List WakeRequest}
    (h : u.staging.restore ≠ .between) (hw : u.wakes = w :: rest) :
    nextBusiness u = some (wake w.slot w.origin { u with wakes := rest }) := by
  rw [nextBusiness, if_neg h, hw]; rfl

theorem nextBusiness_eq_none_iff :
    nextBusiness u = none ↔ u.staging.restore ≠ .between ∧ u.wakes = [] := by
  by_cases h : u.staging.restore = .between
  · simp only [nextBusiness_of_between h, reduceCtorEq, ne_eq, h, not_true_eq_false, false_and]
  · cases hw : u.wakes with
    | nil => simp only [nextBusiness, h, if_false, hw, ne_eq, not_false_eq_true, and_self]
    | cons w rest => simp only [nextBusiness_of_wake h hw, reduceCtorEq, and_false]

theorem drain_of_none (n : Nat) (h : nextBusiness u = none) : drain n u = u := by
  cases n with
  | zero => rfl
  | succ n => simp only [drain, h]

theorem drain_of_some (n : Nat) {v : State} (h : nextBusiness u = some v) :
    drain (n + 1) u = drain n v := by simp only [drain, h]

end Business

/-! ### The head of the start queue (R115) -/

/-- The four conditions under which the head of the start queue goes (R115). -/
abbrev State.headGoes (u : State) (p : QueuePlace) : Prop :=
  (∀ i : SlotId, u.lifeOf i ≠ .powering ∧ u.lifeOf i ≠ .releasing) ∧ u.staging.staggerTimer = none ∧
    (u.slot p.slot).config.offTime * 100 ≤ (u.slot p.slot).offTimer ∧ u.staging.rail = .good

theorem powerUpBusy_eq_false_iff (u : State) : u.powerUpBusy = false ↔
    ∀ i : SlotId, u.lifeOf i ≠ .powering ∧ u.lifeOf i ≠ .releasing := by
  simp only [State.powerUpBusy, List.any_eq_false, List.mem_finRange, true_imp_iff,
    Bool.not_eq_true, inPowerUp_eq_false_iff]

theorem releaseHead_of_empty {u : State} (h : u.staging.startQueue = []) : releaseHead u = u := by
  simp only [releaseHead, State.releasable, h]

theorem releasable_of_head {u : State} {p : QueuePlace} {rest : List QueuePlace}
    (h : u.staging.startQueue = p :: rest) :
    u.releasable = if u.headGoes p then some p else none := by
  have hgoes : (u.powerUpBusy = false ∧ u.staging.staggerTimer = none ∧
      (u.slot p.slot).config.offTime * 100 ≤ (u.slot p.slot).offTimer ∧ u.railGood = true) ↔
      u.headGoes p := by
    rw [powerUpBusy_eq_false_iff, State.railGood, beq_iff_eq]
  simp only [State.releasable, h, hgoes]

theorem releaseHead_of_head {u : State} {p : QueuePlace} {rest : List QueuePlace}
    (h : u.staging.startQueue = p :: rest) :
    releaseHead u = if u.headGoes p then beginPowering p.slot p.origin.cause u else u := by
  by_cases hg : u.headGoes p
  · simp only [releaseHead, releasable_of_head h, if_pos hg]
  · simp only [releaseHead, releasable_of_head h, if_neg hg]

/-- With no sleep to release and no business left, the finish is the release of the head. -/
theorem finish_of_no_business {u : State} (hw : u.wakes = []) (hr : u.staging.restore ≠ .between)
    (hs : u.sleepers = []) : finish u = releaseHead u := by
  rw [finish, releaseSleeps_of_none hs, drain_of_none _ (nextBusiness_eq_none_iff.mpr ⟨hr, hw⟩)]

/-- Settles O14: the link's turns, the finish in its three parts, and the release of all sleeps slot by slot from
`releaseSleep`. -/
theorem whatFollowsAStep : Obligations.WhatFollowsAStep := by
  refine ⟨fun u hc hn => ?_, fun u r hc hr => ?_, fun _ => rfl, fun _ => rfl,
    fun n _ h => pump_of_none n h, fun n _ _ h => pump_of_some n h, fun _ => rfl,
    fun u i => mem_sleepers.trans (sleepReleasable_iff _), fun u => ⟨sleepers_ascending u, rfl⟩,
    fun _ _ _ hs hp => releaseSleep_of_pending hs hp, fun u => ?_, fun n _ h => drain_of_none n h,
    fun n _ _ h => drain_of_some n h, fun _ => nextBusiness_eq_none_iff,
    fun _ h => nextBusiness_of_between h, fun _ _ _ h hw => nextBusiness_of_wake h hw,
    fun _ h => releaseHead_of_empty h, fun _ _ _ h => ?_, fun u p rest hw hr hs h => ?_⟩
  · rw [concluded_of_calm hc, pump_of_none _ hn]
  · rw [concluded_of_calm hc, pump_of_some _ hr]
  · refine ⟨fun i p hi hp => ?_, fun i hi => Slot.eq_of_unheld (releaseSleeps_unheld_of_not_mem hi),
      releaseSleeps_staging u, releaseSleeps_outside u⟩
    have hslot := Slot.eq_of_unheld (releaseSleeps_unheld_of_mem hi hp)
    rw [State.lifeOf, hslot]
    exact slept_fields ..
  · exact (releaseHead_of_head h).trans (if_congr Iff.rfl rfl rfl)
  · rw [finish_of_no_business hw hr hs]
    exact (releaseHead_of_head h).trans (if_congr Iff.rfl rfl rfl)

end Sys2Proof.Machine
end

section
/-! PROOF. Sleep requests (R76 to R78, R94) and the idle monitor (R96): O49. -/

namespace Sys2Proof.Machine

/-! ### A request with a slot number and one coded value -/

theorem byte_of_le_one {b : Byte} (h : b.toNat ≤ 1) : b = 0 ∨ b = 1 := by bv_omega

theorem onSlotWith_of_fields {α : Type} {field : Byte → Option α} {b c : Byte} {i : SlotId} {v : α}
    (hb : b.toNat = i.val + 1) (hv : field c = some v) (s : State) (f : SlotId → α → State → Answered) :
    onSlotWith field [b, c] s f = f i v s := by
  simp only [onSlotWith, slotField_of_number hb, hv]

theorem onSlotWith_of_outside {α : Type} {field : Byte → Option α} {b c : Byte}
    (h : (b.toNat = 0 ∨ 6 < b.toNat) ∨ field c = none) (s : State)
    (f : SlotId → α → State → Answered) : onSlotWith field [b, c] s f = answer .badValue s := by
  rcases h with hb | hc
  · simp only [onSlotWith, slotField_of_outside hb]
  · simp only [onSlotWith, hc]
    cases slotField b <;> rfl

theorem sleepModeField_of_range {mode : Byte} (h : mode.toNat ≤ 1) :
    ∃ force, sleepModeField mode = some force := by
  rcases byte_of_le_one h with rfl | rfl
  · exact ⟨false, rfl⟩
  · exact ⟨true, rfl⟩

/-! ### A sleep request in RUNNING (R77) -/

/-- The slot has entered SLEEP_WAIT, its hold-wait timer started with the limit as it stands (R77). -/
def sleepWaiting (i : SlotId) (origin : SleepOrigin) (s : State) : State :=
  enter i .sleepWait origin.cause
    (if (s.slot i).config.holdWaitLimit = 0 then none
      else some { kind := .holdWait, left := (s.slot i).config.holdWaitLimit * 1000 }) s

section Request

variable {s : State} {i : SlotId} {o : SleepOrigin}

theorem needsVerdict_iff (x : Slot) (o : SleepOrigin) :
    x.needsVerdict o = true ↔ x.config.intercept = true ∧ o ≠ .host := by
  simp only [Slot.needsVerdict, Bool.and_eq_true, bne_iff_ne]

theorem requestSleep_of_free (hv : (s.slot i).needsVerdict o = false) (hh : (s.slot i).holds = 0) :
    requestSleep i o s = beginEntering i o.cause s := if_pos ⟨hv, hh⟩

theorem requestSleep_of_waiting (h : (s.slot i).needsVerdict o = true ∨ (s.slot i).holds ≠ 0) :
    requestSleep i o s = beginSleepWait i o s := by
  refine if_neg fun hfree => ?_
  rcases h with hv | hh
  · exact absurd hfree.1 (by rw [hv]; decide)
  · exact hh hfree.2

/-- An intercepted request awaits its verdict and tells the sleep-request entry (R77). -/
theorem beginSleepWait_of_intercepted (hv : (s.slot i).needsVerdict o = true) :
    beginSleepWait i o s = occur (sleepRequestEntry i) (some (halfOf 0 o.code))
      ((sleepWaiting i o s).setSlot i { (sleepWaiting i o s).slot i with
        pendingSleep := some { origin := o, verdictAwaited := true }
        verdictTimer := some ((s.slot i).config.verdictLimit * 1000) }) := by
  simp only [beginSleepWait, hv, if_true, sleepWaiting]

/-- A request that is not intercepted waits for its holds alone (R77). -/
theorem beginSleepWait_of_unintercepted (hv : (s.slot i).needsVerdict o = false) :
    beginSleepWait i o s = (sleepWaiting i o s).setSlot i { (sleepWaiting i o s).slot i with
      pendingSleep := some { origin := o, verdictAwaited := false }
      verdictTimer := none } := by
  simp only [beginSleepWait, hv, Bool.false_eq_true, if_false, sleepWaiting]

end Request

/-! ### The idle monitor (R96) -/

/-- The idle monitor runs: the slot is RUNNING and its idle timer runs. -/
abbrev Slot.monitorRuns (x : Slot) : Prop := x.state = .running ∧ x.idleTimer.isSome = true

theorem idleRunsOut_eq (i : SlotId) (s : State) : idleRunsOut i s =
    if (s.slot i).monitorRuns
      then requestSleep i .idle (s.setSlot i { s.slot i with idleTimer := none }) else s := by
  by_cases hruns : (s.slot i).monitorRuns
  · rw [if_pos hruns]
    obtain ⟨hstate, htimer⟩ := hruns
    obtain ⟨t, ht⟩ := Option.isSome_iff_exists.mp htimer
    simp only [idleRunsOut, hstate, ht]
  · rw [if_neg hruns]
    simp only [idleRunsOut]
    split
    case h_1 t hstate ht => exact absurd ⟨hstate, by rw [ht]; rfl⟩ hruns
    case h_2 => rfl

theorem activity_eq (i : SlotId) (s : State) : activity i s =
    if (s.slot i).monitorRuns
      then s.setSlot i { s.slot i with idleTimer := some ((s.slot i).config.idleLimit * 1000) }
      else s := by
  by_cases hruns : (s.slot i).monitorRuns
  · rw [if_pos hruns]
    obtain ⟨hstate, htimer⟩ := hruns
    obtain ⟨t, ht⟩ := Option.isSome_iff_exists.mp htimer
    simp only [activity, hstate, ht]
  · rw [if_neg hruns]
    simp only [activity]
    split
    case h_1 t hstate ht => exact absurd ⟨hstate, by rw [ht]; rfl⟩ hruns
    case h_2 => rfl

/-! ### SLOT_SLEEP (R94) -/

section Numbered

variable {b mode : Byte} {i : SlotId} {s : State} (hb : b.toNat = i.val + 1)
include hb

theorem slotSleep_normal_of_running (h : s.lifeOf i = .running) :
    slotSleep [b, 0] s = answer .done (unlist i (requestSleep i .host s)) := by
  rw [slotSleep, onSlotWith_of_fields (v := false) hb rfl]
  simp only [h, carriedOut, Bool.false_eq_true, if_false]

theorem slotSleep_force (h : s.lifeOf i = .running ∨ s.lifeOf i = .sleepWait) :
    slotSleep [b, 1] s = answer .done (unlist i (beginEntering i .host s)) := by
  rw [slotSleep, onSlotWith_of_fields (v := true) hb rfl]
  rcases h with h | h <;> simp only [h, carriedOut, if_true]

theorem slotSleep_normal_of_sleepWait (h : s.lifeOf i = .sleepWait) :
    slotSleep [b, 0] s = answer .busy s := by
  rw [slotSleep, onSlotWith_of_fields (v := false) hb rfl]
  simp only [h, Bool.false_eq_true, if_false]

theorem slotSleep_of_asleep (hm : mode.toNat ≤ 1) (h : s.lifeOf i = .asleep) :
    slotSleep [b, mode] s = answer .done (unlist i s) := by
  obtain ⟨force, hforce⟩ := sleepModeField_of_range hm
  rw [slotSleep, onSlotWith_of_fields hb hforce]
  simp only [h, carriedOut]

theorem slotSleep_of_busy (hm : mode.toNat ≤ 1)
    (h : s.lifeOf i ∈ [.powering, .releasing, .resetting, .entering, .waking, .stopping]) :
    slotSleep [b, mode] s = answer .busy s := by
  obtain ⟨force, hforce⟩ := sleepModeField_of_range hm
  simp only [List.mem_cons, List.not_mem_nil, or_false] at h
  rw [slotSleep, onSlotWith_of_fields hb hforce]
  rcases h with h | h | h | h | h | h <;> simp only [h]

theorem slotSleep_of_unpowered (hm : mode.toNat ≤ 1) (h : s.lifeOf i ∈ [.off, .queued, .faulted]) :
    slotSleep [b, mode] s = answer .wrongState s := by
  obtain ⟨force, hforce⟩ := sleepModeField_of_range hm
  simp only [List.mem_cons, List.not_mem_nil, or_false] at h
  rw [slotSleep, onSlotWith_of_fields hb hforce]
  rcases h with h | h | h <;> simp only [h]

end Numbered

theorem slotSleep_of_outside {b mode : Byte}
    (h : b.toNat = 0 ∨ 6 < b.toNat ∨ 1 < mode.toNat) (s : State) :
    slotSleep [b, mode] s = answer .badValue s :=
  onSlotWith_of_outside ((or_assoc.mpr h).imp_right fun hm => boolField_of_outside hm) s _

/-- Settles O49: a request in RUNNING by whether it is intercepted and held, the rows by the slot's state and its
idle monitor, and SLOT_SLEEP by the slot's state. -/
theorem sleepRequestsByOrigin : Obligations.SleepRequestsByOrigin := by
  refine ⟨rfl, fun s i o => ?_, fun s i hrun => ⟨run_of_running hrun, ?_, ?_⟩,
    fun s seq b mode h => ?_⟩
  · intro x wanted
    have hwanted : x.needsVerdict o = true ↔ wanted := needsVerdict_iff x o
    have hunwanted : ¬ wanted → x.needsVerdict o = false := fun hw =>
      Bool.eq_false_iff.mpr fun hv => hw (hwanted.mp hv)
    refine ⟨fun hw hh => requestSleep_of_free (hunwanted hw) hh, fun hwait => ⟨fun hw => ?_,
      fun hw => ?_⟩⟩
    · rw [requestSleep_of_waiting (hwait.imp_left hwanted.mpr)]
      exact beginSleepWait_of_intercepted (hwanted.mpr hw)
    · rw [requestSleep_of_waiting (hwait.imp_left hwanted.mpr)]
      exact beginSleepWait_of_unintercepted (hunwanted hw)
  · exact (run_of_running hrun).trans (by rw [idleRunsOut_eq])
  · exact (run_of_running hrun).trans (by rw [edge, deliver, activity_eq]; rfl)
  · have request : ∀ {code m : Byte} {t : State} {r : Result}, slotSleep [b, m] s = answer r t →
        r.code = code → exec (.slotSleep seq [b, m]) s = .next (t.answered seq [code]) :=
      fun hd hr => exec_answer (c := .slotSleep) h rfl hd hr
    exact ⟨fun i hb => ⟨fun hs => request (slotSleep_normal_of_running hb hs) rfl,
        fun hs => request (slotSleep_force hb hs) rfl,
        fun hs => request (slotSleep_normal_of_sleepWait hb hs) rfl,
        fun hm hs => request (slotSleep_of_asleep hb hm hs) rfl,
        fun hm hs => request (slotSleep_of_busy hb hm hs) rfl,
        fun hm hs => request (slotSleep_of_unpowered hb hm hs) rfl⟩,
      fun hout => request (slotSleep_of_outside hout s) rfl⟩

end Sys2Proof.Machine
end

section
/-! PROOF. Wake requests (R87, R90, R92, R93) and SLOT_WAKE (R95): O50. -/

namespace Sys2Proof.Machine

/-! ### A wake request by the slot's state (R90) -/

theorem ignoredWhenListed_iff (o : WakeOrigin) :
    o.ignoredWhenListed = true ↔ o = .wakeEvent ∨ o = .wakeLine := by
  cases o <;> simp only [WakeOrigin.ignoredWhenListed, reduceCtorEq, or_false, or_true,
    Bool.false_eq_true]

/-- The slot does not ignore a wake request of the origin (R93). -/
abbrev State.heeds (s : State) (i : SlotId) (o : WakeOrigin) : Prop :=
  ¬ (s.listed i && o.ignoredWhenListed) = true

theorem heeds_iff (s : State) (i : SlotId) (o : WakeOrigin) : s.heeds i o ↔
    ¬ (o = .wakeEvent ∨ o = .wakeLine) ∨ i ∉ s.staging.shedList.map ShedPlace.slot := by
  rw [State.heeds, Bool.and_eq_true, listed_iff, ignoredWhenListed_iff, not_and_or, or_comm]

section Wake

variable {s : State} {i : SlotId} {o : WakeOrigin}

theorem wake_of_unheeded (h : ¬ s.heeds i o) : wake i o s = s := if_pos (not_not.mp h)

variable (h : s.heeds i o)
include h

theorem wake_of_awake (hs : s.lifeOf i ∈
    [.queued, .powering, .releasing, .running, .resetting, .waking, .stopping, .faulted]) :
    wake i o s = s := by
  simp only [List.mem_cons, List.not_mem_nil, or_false] at hs
  rw [wake, if_neg h]
  rcases hs with hs | hs | hs | hs | hs | hs | hs | hs <;> simp only [hs]

theorem wake_of_sleepWait (hs : s.lifeOf i = .sleepWait) :
    wake i o s = enter i .running .overtaken none s := by
  rw [wake, if_neg h]
  simp only [hs]

/-- The first wake in ENTERING is deferred with its cause (R87). -/
theorem wake_of_entering (hs : s.lifeOf i = .entering) (hd : (s.slot i).deferredWake = none) :
    wake i o s = s.setSlot i { s.slot i with deferredWake := some o.cause } := by
  rw [wake, if_neg h]
  simp only [hs, hd, Option.getD_none]

/-- A later one changes nothing (R87). -/
theorem wake_of_deferred (hs : s.lifeOf i = .entering)
    (hd : (s.slot i).deferredWake.isSome = true) : wake i o s = s := by
  obtain ⟨c, hc⟩ := Option.isSome_iff_exists.mp hd
  rw [wake, if_neg h]
  simp only [hs, hc, Option.getD_some]
  rw [← hc]
  exact State.setSlot_self s i

theorem wake_of_asleep (hs : s.lifeOf i = .asleep) : wake i o s = beginWaking i o.cause s := by
  rw [wake, if_neg h]
  simp only [hs]

/-- A wake in OFF is a power-up claim when the conditions of R92 hold. -/
theorem wake_of_off (hs : s.lifeOf i = .off) : wake i o s =
    if (o = .wakeEvent ∨ o = .wakeLine) ∧ (s.slot i).config.wakeFromOff = true ∧
        (s.slot i).override = false ∧ s.staging.rail = .good ∧ (s.lineSet i).present.level = true
      then enqueue i .wakeFromOff s else s := by
  have hclaim : s.autoClaimable i = true ↔ (s.slot i).override = false ∧ s.staging.rail = .good ∧
      (s.lineSet i).present.level = true := by
    simp only [State.autoClaimable, State.claimable, State.isPresent, State.railGood, hs, beq_self_eq_true,
      Bool.true_and, Bool.and_eq_true, beq_iff_eq, Bool.not_eq_true']
    exact ⟨fun ⟨⟨hp, hr⟩, hn⟩ => ⟨hn, hr, hp⟩, fun ⟨hn, hr, hp⟩ => ⟨⟨hp, hr⟩, hn⟩⟩
  rw [wake, if_neg h]
  simp only [hs, wakeFromOff, Bool.and_eq_true, ignoredWhenListed_iff, hclaim, and_assoc]

end Wake

/-! ### SLOT_WAKE (R95) -/

section Numbered

variable {b : Byte} {i : SlotId} {s : State} (hb : b.toNat = i.val + 1)
include hb

theorem slotWake_of_down (h : s.lifeOf i = .off ∨ s.lifeOf i = .faulted) :
    slotWake [b] s = answer .wrongState s := by
  rw [slotWake, onSlot_of_number hb]
  rcases h with h | h <;> simp only [h]

theorem slotWake_of_up (h : s.lifeOf i ≠ .off) (hf : s.lifeOf i ≠ .faulted) :
    slotWake [b] s = answer .done (unlist i (wake i .host s)) := by
  rw [slotWake, onSlot_of_number hb]
  split
  case h_1 heq => exact absurd heq h
  case h_2 heq => exact absurd heq hf
  all_goals rfl

end Numbered

/-- Settles O50: a wake request that the shed list does not hold back by the slot's state, and SLOT_WAKE by whether
the slot is down. -/
theorem wakeRequestsByState : Obligations.WakeRequestsByState := by
  refine ⟨rfl, fun s i o => ?_, fun s seq b h => ?_⟩
  · intro x event
    refine ⟨fun hevent hlisted => wake_of_unheeded fun hheeds => ?_, fun hheeded => ?_⟩
    · rcases (heeds_iff s i o).mp hheeds with hother | hunlisted
      · exact hother hevent
      · exact hunlisted hlisted
    · have hheeds : s.heeds i o := (heeds_iff s i o).mpr hheeded
      exact ⟨wake_of_awake hheeds, wake_of_sleepWait hheeds, wake_of_entering hheeds,
        wake_of_deferred hheeds, wake_of_asleep hheeds,
        fun hs => (wake_of_off hheeds hs).trans (if_congr Iff.rfl rfl rfl)⟩
  · have request : ∀ {code : Byte} {t : State} {r : Result}, slotWake [b] s = answer r t →
        r.code = code → exec (.slotWake seq [b]) s = .next (t.answered seq [code]) :=
      fun hd hr => exec_answer (c := .slotWake) h rfl hd hr
    exact ⟨fun i hb => ⟨fun hs hf => request (slotWake_of_up hb hs hf) rfl,
        fun hs => request (slotWake_of_down hb hs) rfl⟩,
      fun hb => request (onSlot_of_outside hb s _) rfl⟩

end Sys2Proof.Machine
end

section
/-! PROOF. SLOT_VERDICT (R82), the ends of the verdict and hold-wait timers (R83, R84), SLOT_HOLD and SLOT_UNHOLD
(R80): O51 and O52. -/

namespace Sys2Proof.Machine

/-! ### The awaited verdict (R82) -/

theorem awaitsVerdict_of_pending {x : Slot} {p : PendingSleep} (hs : x.state = .sleepWait)
    (hp : x.pendingSleep = some p) : x.awaitsVerdict = p.verdictAwaited := by
  simp only [Slot.awaitsVerdict, hs, hp, beq_self_eq_true, Bool.true_and, Option.map_some,
    Option.getD_some]

theorem awaitsVerdict_of_not_waiting {x : Slot} (h : x.state ≠ .sleepWait ∨ x.pendingSleep = none) :
    x.awaitsVerdict = false := by
  rw [Slot.awaitsVerdict, Bool.and_eq_false_iff]
  rcases h with hs | hp
  · exact .inl (beq_eq_false_iff_ne.mpr hs)
  · exact .inr (by rw [hp]; rfl)

theorem applyVerdict_grant {s : State} {i : SlotId} {p : PendingSleep}
    (hp : (s.slot i).pendingSleep = some p) :
    applyVerdict i .grant s = s.setSlot i { s.slot i with
      pendingSleep := some { p with verdictAwaited := false }
      verdictTimer := none } := by
  simp only [applyVerdict, hp, Option.map_some]

theorem verdictField_of_range {v : Byte} (h : v.toNat ≤ 1) : ∃ w, verdictField v = some w := by
  rcases byte_of_le_one h with rfl | rfl
  · exact ⟨.deny, rfl⟩
  · exact ⟨.grant, rfl⟩

theorem verdictField_of_outside {v : Byte} (h : 1 < v.toNat) : verdictField v = none := by
  rw [Option.eq_none_iff_forall_ne_some]
  intro w hw
  rw [verdictField_eq_some_iff] at hw
  subst hw
  cases w <;> exact absurd h (by decide)

theorem slotVerdict_of_awaited {b v : Byte} {i : SlotId} {w : Verdict} {s : State}
    (hb : b.toNat = i.val + 1) (hv : verdictField v = some w) (h : (s.slot i).awaitsVerdict = true) :
    slotVerdict [b, v] s = answer .done (unlist i (applyVerdict i w s)) := by
  rw [slotVerdict, onSlotWith_of_fields hb hv]
  exact if_pos h

theorem slotVerdict_of_unawaited {b v : Byte} {i : SlotId} {s : State} (hb : b.toNat = i.val + 1)
    (hv : v.toNat ≤ 1) (h : (s.slot i).awaitsVerdict = false) :
    slotVerdict [b, v] s = answer .wrongState s := by
  obtain ⟨w, hw⟩ := verdictField_of_range hv
  rw [slotVerdict, onSlotWith_of_fields hb hw]
  exact if_neg (Bool.eq_false_iff.mp h)

theorem slotVerdict_of_outside {b v : Byte} (h : b.toNat = 0 ∨ 6 < b.toNat ∨ 1 < v.toNat)
    (s : State) : slotVerdict [b, v] s = answer .badValue s :=
  onSlotWith_of_outside ((or_assoc.mpr h).imp_right verdictField_of_outside) s _

/-! ### The ends of the verdict and hold-wait timers (R83, R84) -/

section Expiries

variable {s : State} {i : SlotId}

theorem verdictRunsOut_of_awaited (h : (s.slot i).awaitsVerdict = true)
    (ht : (s.slot i).verdictTimer.isSome = true) :
    verdictRunsOut i s = applyVerdict i (s.slot i).config.defaultVerdict s :=
  if_pos (Bool.and_eq_true_iff.mpr ⟨h, ht⟩)

theorem verdictRunsOut_of_idle
    (h : (s.slot i).awaitsVerdict = false ∨ (s.slot i).verdictTimer = none) :
    verdictRunsOut i s = s := by
  refine if_neg fun hruns => ?_
  obtain ⟨hawaits, htimer⟩ := Bool.and_eq_true_iff.mp hruns
  rcases h with h | h
  · exact absurd hawaits (by rw [h]; decide)
  · exact absurd htimer (by rw [h]; decide)

theorem holdWaitRunsOut_of_running (hs : (s.slot i).state = .sleepWait)
    (ht : (s.slot i).step.isSome = true) : holdWaitRunsOut i s =
      if (s.slot i).holds = 0 then s.setSlot i { s.slot i with step := none }
      else enter i .running .holdTimeout none s := by
  obtain ⟨t, ht⟩ := Option.isSome_iff_exists.mp ht
  simp only [holdWaitRunsOut, hs, ht]

theorem holdWaitRunsOut_of_idle (h : (s.slot i).state ≠ .sleepWait ∨ (s.slot i).step = none) :
    holdWaitRunsOut i s = s := by
  simp only [holdWaitRunsOut]
  split
  case h_1 t hs ht =>
    rcases h with hother | hnone
    · exact absurd hs hother
    · exact absurd (ht.symm.trans hnone) (Option.some_ne_none t)
  case h_2 => rfl

end Expiries

/-- Settles O51: SLOT_VERDICT and the expiry by whether a verdict is awaited, the hold wait's expiry by the slot's
state and its holds. -/
theorem verdictsAndWaitsEnd : Obligations.VerdictsAndWaitsEnd := by
  have request : ∀ {seq b v code : Byte} {s t : State} {r : Result}, s.ready seq →
      slotVerdict [b, v] s = answer r t → r.code = code →
      exec (.slotVerdict seq [b, v]) s = .next (t.answered seq [code]) :=
    fun h hd hr => exec_answer (c := .slotVerdict) h rfl hd hr
  have expires : ∀ {s t : State} {f : State → State}, s.phase = .running → f s = t →
      run f s = .next t.concluded := fun hrun ht => (run_of_running hrun).trans (by rw [ht])
  refine ⟨fun s i p => ?_, fun s i hrun => ?_, fun s seq b v h => ⟨fun i hb hv hs => ?_, fun hout => ?_⟩⟩
  · intro x granted denied hs hp
    have hawaits : x.awaitsVerdict = p.verdictAwaited := awaitsVerdict_of_pending hs hp
    have hgrant : applyVerdict i .grant s = granted := applyVerdict_grant hp
    refine ⟨fun seq b h hb => ⟨fun ha => ⟨?_, ?_⟩, fun v hv ha => ?_⟩, fun hrun ha ht => ?_,
      fun hrun hidle => ?_⟩
    · rw [← hgrant]
      exact request h (slotVerdict_of_awaited hb rfl (hawaits.trans ha)) rfl
    · exact request h (slotVerdict_of_awaited (w := .deny) hb rfl (hawaits.trans ha)) rfl
    · exact request h (slotVerdict_of_unawaited hb hv (hawaits.trans ha)) rfl
    · refine expires hrun ((verdictRunsOut_of_awaited (hawaits.trans ha) ht).trans ?_)
      cases hd : x.config.defaultVerdict
      · exact (if_neg (by decide)).symm
      · exact hgrant.trans (if_pos rfl).symm
    · exact expires hrun (verdictRunsOut_of_idle (hidle.imp_left hawaits.trans))
  · exact ⟨fun h => expires hrun (verdictRunsOut_of_idle (.inl (awaitsVerdict_of_not_waiting h))),
      fun hs ht hh => expires hrun ((holdWaitRunsOut_of_running hs ht).trans (if_neg hh)),
      fun hs ht hh => expires hrun ((holdWaitRunsOut_of_running hs ht).trans (if_pos hh)),
      fun h => expires hrun (holdWaitRunsOut_of_idle h)⟩
  · exact request h (slotVerdict_of_unawaited hb hv (awaitsVerdict_of_not_waiting (.inl hs))) rfl
  · exact request h (slotVerdict_of_outside hout s) rfl

/-! ### SLOT_HOLD and SLOT_UNHOLD (R80) -/

section Numbered

variable {b : Byte} {i : SlotId} {s : State} (hb : b.toNat = i.val + 1)
include hb

theorem slotHold_below_limit (h : (s.slot i).hostHolds < 15) : slotHold [b] s =
    answer .done (s.setSlot i { s.slot i with
      hostHolds := (s.slot i).hostHolds + 1, holds := (s.slot i).holds + 1 }) := by
  rw [slotHold, onSlot_of_number hb]
  exact if_pos h

theorem slotHold_at_limit (h : 15 ≤ (s.slot i).hostHolds) : slotHold [b] s = answer .badValue s := by
  rw [slotHold, onSlot_of_number hb]
  exact if_neg (Nat.not_lt.mpr h)

theorem slotUnhold_of_held (h : 0 < (s.slot i).hostHolds) : slotUnhold [b] s =
    answer .done (s.setSlot i { s.slot i with
      hostHolds := (s.slot i).hostHolds - 1, holds := (s.slot i).holds - 1 }) := by
  rw [slotUnhold, onSlot_of_number hb]
  exact if_pos h

theorem slotUnhold_of_unheld (h : (s.slot i).hostHolds = 0) :
    slotUnhold [b] s = answer .wrongState s := by
  rw [slotUnhold, onSlot_of_number hb]
  exact if_neg (by rw [h]; decide)

end Numbered

/-! ### The sleep that the last UNHOLD releases (R81) -/

/-- A slot whose record becomes one that is to be released, where no sleep was, is the only one. -/
theorem sleepers_setSlot {s : State} {i : SlotId} {x : Slot} (hs : s.sleepers = [])
    (hx : x.sleepReleasable = true) : (s.setSlot i x).sleepers = [i] := by
  have hnodup : (s.setSlot i x).sleepers.Nodup := (sleepers_ascending _).imp Fin.ne_of_lt
  refine List.perm_singleton.mp ((List.perm_ext_iff_of_nodup hnodup (List.nodup_singleton i)).mpr
    fun j => ?_)
  rw [mem_sleepers, List.mem_singleton]
  by_cases hj : j = i
  · subst hj
    rw [State.slot_setSlot]
    exact iff_of_true hx rfl
  · rw [State.slot_setSlot_ne _ _ hj, ← mem_sleepers, hs]
    exact iff_of_false List.not_mem_nil hj

/-- The release of the one waiting sleep enters ENTERING with the cause it waited with (R81). -/
theorem releaseSleeps_setSlot {s : State} {i : SlotId} {x : Slot} {p : PendingSleep}
    (hs : s.sleepers = []) (hstate : x.state = .sleepWait) (hp : x.pendingSleep = some p)
    (hv : p.verdictAwaited = false) (hh : x.holds = 0) :
    releaseSleeps (s.setSlot i x) = beginEntering i p.origin.cause (s.setSlot i x) := by
  have hx : x.sleepReleasable = true := (sleepReleasable_iff x).mpr ⟨p, hstate, hp, hv, hh⟩
  rw [releaseSleeps, sleepers_setSlot hs hx]
  exact releaseSleep_of_pending (by rwa [State.lifeOf, State.slot_setSlot]) (by rwa [State.slot_setSlot])

/-- Settles O52: both requests by the host hold count, and the release by the finish of the step. -/
theorem hostHoldsAreCounted : Obligations.HostHoldsAreCounted := by
  intro s seq b h
  have hold : ∀ {code : Byte} {t : State} {r : Result}, slotHold [b] s = answer r t →
      r.code = code → exec (.slotHold seq [b]) s = .next (t.answered seq [code]) :=
    fun hd hr => exec_answer (c := .slotHold) h rfl hd hr
  have unhold : ∀ {code : Byte} {t : State} {r : Result}, slotUnhold [b] s = answer r t →
      r.code = code → exec (.slotUnhold seq [b]) s = .next (t.answered seq [code]) :=
    fun hd hr => exec_answer (c := .slotUnhold) h rfl hd hr
  refine ⟨fun i hb => ?_, fun hb => ⟨hold (onSlot_of_outside hb s _) rfl,
    unhold (onSlot_of_outside hb s _) rfl⟩, fun _ _ => rfl⟩
  intro x lowered
  have hlower : 0 < x.hostHolds → exec (.slotUnhold seq [b]) s = .next (lowered.answered seq [0x00]) :=
    fun hx => unhold (slotUnhold_of_held hb hx) rfl
  refine ⟨fun hx => hold (slotHold_below_limit hb hx) rfl,
    fun hx => hold (slotHold_at_limit hb hx) rfl, hlower,
    fun hx => unhold (slotUnhold_of_unheld hb hx) rfl, fun p hx hone hstate hp hv => ?_⟩
  obtain ⟨⟨-, ⟨-, -, hsleepers, -⟩, -⟩, -⟩ := h
  have hrelease : releaseSleeps lowered = beginEntering i p.origin.cause lowered :=
    releaseSleeps_setSlot hsleepers hstate hp hv (by simp only [hone])
  have hfinish : finish lowered =
      releaseHead (drain 1000 (beginEntering i p.origin.cause lowered)) := by
    rw [← hrelease]; rfl
  refine ⟨hrelease, hfinish, ?_⟩
  rw [hlower hx, State.answered, hfinish]

end Sys2Proof.Machine
end

section
/-! PROOF. The start queue and the QUEUED slots (R114), and the override flags (R111): every primitive change of
State keeps the start queue in agreement with the slots' states and, with that, every overridden slot OFF (O12). -/

namespace Sys2Proof.Machine

/-! ### Changes that leave the slots' states, their override flags and the start queue -/

/-- A state in which every slot stands as in another: in the same state, at the same place in the start queue,
and with no override flag set that is clear there. -/
structure State.StandsAs (t s : State) : Prop where
  queue : t.staging.startQueue = s.staging.startQueue
  life : ∀ i, t.lifeOf i = s.lifeOf i
  flag : ∀ i, (t.slot i).override = true → (s.slot i).override = true

theorem standsAs_of_unheld {s t : State} (hq : t.staging.startQueue = s.staging.startQueue)
    (hu : ∀ i, (t.slot i).unheld = (s.slot i).unheld) : t.StandsAs s where
  queue := hq
  life i := (congrArg Slot.state (hu i) :)
  flag i h := (congrArg Slot.override (hu i)).symm.trans h

theorem standsAs_of_slots {s t : State} (hq : t.staging.startQueue = s.staging.startQueue)
    (hs : t.slots = s.slots) : t.StandsAs s :=
  standsAs_of_unheld hq fun i => by rw [slot_of_slots hs]

theorem lifeOf_setSlot_of_state {s : State} {i : SlotId} {x : Slot}
    (hx : x.state = (s.slot i).state) (j : SlotId) : (s.setSlot i x).lifeOf j = s.lifeOf j := by
  by_cases hj : j = i
  · subst hj; rwa [State.lifeOf, State.slot_setSlot]
  · rw [State.lifeOf, State.slot_setSlot_ne s x hj]; rfl

theorem standsAs_setSlot {s : State} {i : SlotId} {x : Slot} (hstate : x.state = (s.slot i).state)
    (hflag : x.override = (s.slot i).override ∨ x.override = false) :
    (s.setSlot i x).StandsAs s := by
  refine ⟨rfl, lifeOf_setSlot_of_state hstate, fun j hj => ?_⟩
  by_cases hji : j = i
  · subst hji
    rw [State.slot_setSlot] at hj
    rcases hflag with hkept | hclear
    · rwa [hkept] at hj
    · rw [hclear] at hj; cases hj
  · rwa [State.slot_setSlot_ne s x hji] at hj

theorem standsAs_mapSlots {s : State} {f : SlotId → Slot → Slot}
    (hf : ∀ i x, (f i x).state = x.state ∧ (f i x).override = x.override) :
    (s.mapSlots f).StandsAs s := by
  refine ⟨rfl, fun i => ?_, fun i => ?_⟩ <;> obtain ⟨hstate, hflag⟩ := hf i (s.slot i)
  · rwa [State.lifeOf, State.slot_mapSlots]
  · rw [State.slot_mapSlots, hflag]; exact id

theorem standsAs_unlist (i : SlotId) (s : State) : (unlist i s).StandsAs s :=
  standsAs_of_slots (unlist_startQueue i s) rfl

theorem standsAs_counted (s : State) : s.counted.StandsAs s := by
  have hslot : ∀ i, s.counted.slot i = (s.slot i).counted := fun i => by
    simp [State.counted, State.slot]
  refine ⟨rfl, fun i => ?_, fun i => ?_⟩
  · rw [State.lifeOf, hslot]; rfl
  · rw [hslot]; exact id

theorem standsAs_occur (e : EntryId) (d : Option Half) (s : State) : (occur e d s).StandsAs s :=
  standsAs_of_unheld (by rw [occur_staging]) (occur_unheld e d s)

theorem standsAs_clearEntry (e : EntryId) (s : State) : (clearEntry e s).StandsAs s :=
  standsAs_of_unheld (by rw [clearEntry_staging]) fun i => by rw [clearEntry_slot]; rfl

theorem standsAs_reconfigure (e : EntryId) (new : Entry) (s : State) :
    (reconfigure e new s).StandsAs s := by
  have hplaced : ∀ x : Entry, ∀ i, ((replace e (replaceEntry e x s)).slot i).unheld =
      (s.slot i).unheld := fun x i => by
    rw [slot_of_slots (replace_slots e _), replaceEntry_slot]; rfl
  unfold reconfigure
  extract_lets placed
  split
  · exact standsAs_of_unheld (by simp [placed]) fun i => (occur_unheld ..).trans (hplaced _ i)
  · exact standsAs_of_unheld (by simp [placed]) (hplaced _)

/-! ### The start queue (R114) -/

theorem startQueueAgrees_of_frame {s t : State} (h : s.startQueueAgrees)
    (hq : t.staging.startQueue = s.staging.startQueue) (hl : ∀ i, t.lifeOf i = s.lifeOf i) :
    t.startQueueAgrees := by
  obtain ⟨hnodup, hmem⟩ := h
  rw [State.startQueueAgrees, hq]
  exact ⟨hnodup, fun i => by rw [hl]; exact hmem i⟩

theorem startQueueAgrees_of_empty {s : State} (hq : s.staging.startQueue = [])
    (hs : ∀ i, s.lifeOf i ≠ .queued) : s.startQueueAgrees := by
  rw [State.startQueueAgrees, hq]
  exact ⟨List.nodup_nil, fun i => iff_of_false List.not_mem_nil (hs i)⟩

/-- The slot at the head of the start queue is QUEUED. -/
theorem lifeOf_of_head {s : State} {p : QueuePlace} {rest : List QueuePlace}
    (h : s.startQueueAgrees) (hq : s.staging.startQueue = p :: rest) : s.lifeOf p.slot = .queued := by
  obtain ⟨-, hmem⟩ := h
  exact (hmem p.slot).mp (by simp [hq])

/-- A transition takes its slot's place out of the start queue, if it has one, and leaves the others. -/
theorem enter_queuedSlots {s : State} (h : s.startQueueAgrees) (i : SlotId) (target : LifeState)
    (cause : Cause) (step : Option StepTimer) :
    (enter i target cause step s).staging.startQueue.map QueuePlace.slot =
      (s.staging.startQueue.map QueuePlace.slot).filter fun j => decide (j ≠ i) := by
  obtain ⟨-, hmem⟩ := h
  rw [enter_staging, told_startQueue]
  split
  · rw [List.filter_map]; rfl
  · rename_i hunqueued
    refine (List.filter_eq_self.mpr fun j hj => decide_eq_true ?_).symm
    rintro rfl
    exact hunqueued ((hmem j).mp hj)

theorem startQueueAgrees_enter {s : State} (i : SlotId) {target : LifeState} (cause : Cause)
    (step : Option StepTimer) (h : s.startQueueAgrees) (ht : target ≠ .queued) :
    (enter i target cause step s).startQueueAgrees := by
  rw [State.startQueueAgrees, enter_queuedSlots h]
  obtain ⟨hnodup, hmem⟩ := h
  refine ⟨hnodup.filter _, fun j => ?_⟩
  rw [List.mem_filter, hmem]
  by_cases hj : j = i
  · subst hj; simp [ht]
  · simp [enter_lifeOf_ne target cause step s hj, hj]

/-- A claim brings its slot to QUEUED and to the tail of the start queue (R60, R114). -/
theorem startQueueAgrees_enqueue {s : State} (i : SlotId) (o : QueueOrigin)
    (h : s.startQueueAgrees) : (enqueue i o s).startQueueAgrees := by
  have hqueue : (enqueue i o s).staging.startQueue.map QueuePlace.slot =
      ((s.staging.startQueue.map QueuePlace.slot).filter fun j => decide (j ≠ i)) ++ [i] := by
    rw [← enter_queuedSlots h i .queued o.cause none]
    exact List.map_append
  have hlife : ∀ j, (enqueue i o s).lifeOf j = (enter i .queued o.cause none s).lifeOf j :=
    fun _ => rfl
  rw [State.startQueueAgrees, hqueue]
  obtain ⟨hnodup, hmem⟩ := h
  refine ⟨(hnodup.filter _).append (List.nodup_singleton i) (by simp), fun j => ?_⟩
  rw [List.mem_append, List.mem_filter, hmem, hlife]
  by_cases hj : j = i
  · subst hj; simp
  · simp [enter_lifeOf_ne _ _ _ s hj, hj]

/-- Each slot is OFF after a cold start, its override flag clear (R73, R112). -/
theorem coldStart_slot (reason : RestartReason) (s : State) (i : SlotId) :
    (coldStart reason s).lifeOf i = .off ∧ ((coldStart reason s).slot i).override = false := by
  rw [State.lifeOf, coldStart, coldStarted_slot]
  exact ⟨rfl, rfl⟩

/-! ### The override flags (R111) -/

theorem override_clear {s : State} {i : SlotId} (h : s.overrideHolds) (hi : s.lifeOf i ≠ .off) :
    (s.slot i).override = false := Bool.eq_false_iff.mpr fun hset => hi (h i hset)

/-- A transition to OFF, or of a slot whose override flag is clear, leaves every overridden slot OFF when the
others were. -/
theorem overrideHolds_enter {s : State} {i : SlotId} {target : LifeState} (cause : Cause)
    (step : Option StepTimer) (h : ∀ j, j ≠ i → (s.slot j).override = true → s.lifeOf j = .off)
    (ht : target = .off ∨ (s.slot i).override = false) :
    (enter i target cause step s).overrideHolds := by
  intro j hj
  rw [enter_override] at hj
  by_cases hji : j = i
  · subst hji
    rw [enter_lifeOf]
    exact ht.resolve_right (by simp [hj])
  · rw [enter_lifeOf_ne target cause step s hji]
    exact h j hji hj

/-- Every overridden slot is OFF, and so none of them is released from the start queue. -/
abbrev State.overridesAgree (s : State) : Prop := s.overrideHolds ∧ s.startQueueAgrees

theorem overridesAgree_of_standsAs {s t : State} (h : s.overridesAgree) (ht : t.StandsAs s) :
    t.overridesAgree :=
  ⟨fun i hi => (ht.life i).trans (h.1 i (ht.flag i hi)),
    startQueueAgrees_of_frame h.2 ht.queue ht.life⟩

theorem overridesAgree_enter {s : State} {i : SlotId} {target : LifeState} (cause : Cause)
    (step : Option StepTimer) (h : s.overridesAgree) (hq : target ≠ .queued)
    (ht : target = .off ∨ s.lifeOf i ≠ .off) : (enter i target cause step s).overridesAgree :=
  ⟨overrideHolds_enter cause step (fun j _ => h.1 j) (ht.imp_right (override_clear h.1)),
    startQueueAgrees_enter i cause step h.2 hq⟩

/-- A claim from OFF asks for a clear override flag (R111). -/
theorem overridesAgree_enqueue {s : State} {i : SlotId} (o : QueueOrigin) (h : s.overridesAgree)
    (hoff : s.lifeOf i = .off → (s.slot i).override = false) : (enqueue i o s).overridesAgree := by
  have hclear : (s.slot i).override = false :=
    (eq_or_ne (s.lifeOf i) .off).elim hoff (override_clear h.1)
  have hqueued : (enter i .queued o.cause none s).overrideHolds :=
    overrideHolds_enter o.cause none (fun j _ => h.1 j) (.inr hclear)
  exact ⟨hqueued, startQueueAgrees_enqueue i o h.2⟩

/-- An override sets the flag of a slot that it takes to OFF (R110). -/
theorem overridesAgree_overrideSlot {s : State} (i : SlotId) (h : s.overridesAgree) :
    (overrideSlot i s).overridesAgree := by
  have hlife : ∀ j, (s.setSlot i { s.slot i with override := true }).lifeOf j = s.lifeOf j :=
    lifeOf_setSlot_of_state rfl
  refine ⟨overrideHolds_enter _ _ (fun j hj hset => ?_) (.inl rfl),
    startQueueAgrees_enter _ _ _ (startQueueAgrees_of_frame h.2 rfl hlife) (by decide)⟩
  rw [State.slot_setSlot_ne s _ hj] at hset
  exact (hlife j).trans (h.1 j hset)

/-- The primitive changes of State keep every overridden slot OFF. -/
theorem closed_overridesAgree : Closed State.overridesAgree where
  inside h _ _ _ hs hu _ _ _ := overridesAgree_of_standsAs h (standsAs_of_slots (by rw [hu]) hs)
  staging h hq _ _ _ := overridesAgree_of_standsAs h (standsAs_of_slots hq rfl)
  unlist h := overridesAgree_of_standsAs h (standsAs_unlist _ _)
  emptied h hdown hq _ _ := ⟨h.1, startQueueAgrees_of_empty hq fun i => by
    rcases hdown i with hi | hi <;> simp [hi]⟩
  returned h _ := overridesAgree_of_standsAs h (standsAs_of_slots rfl rfl)
  slot h hstate _ _ hflag _ := overridesAgree_of_standsAs h (standsAs_setSlot hstate hflag)
  slots h hf := overridesAgree_of_standsAs h (standsAs_mapSlots fun i x => by
    obtain ⟨hstate, -, -, hflag, -⟩ := hf i x; exact ⟨hstate, hflag⟩)
  hold h := overridesAgree_of_standsAs h (standsAs_setSlot rfl (.inl rfl))
  unhold h _ := overridesAgree_of_standsAs h (standsAs_setSlot rfl (.inl rfl))
  discard h := overridesAgree_of_standsAs h (standsAs_mapSlots fun _ _ => ⟨rfl, rfl⟩)
  counted h := overridesAgree_of_standsAs h (standsAs_counted _)
  cold {s reason} _ := ⟨fun i _ => (coldStart_slot reason s i).1,
    startQueueAgrees_of_empty rfl fun i => by rw [(coldStart_slot reason s i).1]; decide⟩
  enter h hq _ _ ht _ := overridesAgree_enter _ _ h hq (ht.imp_right fun hon =>
    ((railOn_iff _).mp hon).1)
  release h hq _ _ := overridesAgree_enter _ _ h (by decide)
    (.inr (by rw [lifeOf_of_head h.2 hq]; decide))
  enqueue h _ hoff _ _ := overridesAgree_enqueue _ h hoff
  shed h hl _ hact := overridesAgree_enter _ _ (overridesAgree_of_standsAs h (standsAs_of_slots rfl rfl))
    (by rcases hact with ⟨-, rfl⟩ | ⟨-, rfl⟩ <;> decide)
    (.inr (by rcases hl with hl | hl <;> simp [hl]))
  override h := overridesAgree_overrideSlot _ h
  occur h := overridesAgree_of_standsAs h (standsAs_occur _ _ _)
  clearEntry h := overridesAgree_of_standsAs h (standsAs_clearEntry _ _)
  reconfigure h := overridesAgree_of_standsAs h (standsAs_reconfigure _ _ _)
  channel h _ _ _ _ := overridesAgree_of_standsAs h (standsAs_of_slots (by simp) (by simp))
  compose h := overridesAgree_of_standsAs h (standsAs_of_slots (by simp) (by simp))
  endNotice h _ := overridesAgree_of_standsAs h
    (standsAs_of_slots (by rw [endNotice_staging]) (endNotice_slots _ _ _))
  restart h := overridesAgree_of_standsAs h (standsAs_of_slots rfl rfl)

/-- Settles O12: the override flags, with the start queue, are closed under every primitive change of State, and
so under every step. -/
theorem overriddenSlotsStayOff : Obligations.OverriddenSlotsStayOff := by
  intro s t hoverride hqueue ht
  exact (closed_overridesAgree.step id ⟨hoverride, hqueue⟩ ht).1

end Sys2Proof.Machine
end

section
/-! PROOF. Heartbeats, SLOT_KICK and the expiries of the heartbeat timer (R100 to R104), SLOT_RECOVERY_CLEAR (R106,
R107), and the service button (R108 to R110): O53 to O55. -/

namespace Sys2Proof.Machine

/-! ### What an occurrence and a transition leave of a slot's configuration -/

@[simp] theorem occur_config (e : EntryId) (d : Option Half) (s : State) (i : SlotId) :
    ((occur e d s).slot i).config = (s.slot i).config := by rw [occur_slot]

@[simp] theorem enqueue_config (i : SlotId) (o : QueueOrigin) (s : State) :
    ((enqueue i o s).slot i).config = (s.slot i).config := enter_config i .queued o.cause none s

@[simp] theorem beginWaking_config (i : SlotId) (cause : Cause) (s : State) :
    ((beginWaking i cause s).slot i).config = (s.slot i).config := by
  rw [beginWaking_eq]
  dsimp only
  repeat' split
  · rw [State.slot_setSlot, enter_config]
  · rw [enter_config, State.slot_setSlot, enter_config]
  · rw [enter_config]

/-! ### Heartbeats (R100) and their expiry (R102, R103, R104) -/

/-- The slot is under supervision: it is RUNNING and its heartbeat timer runs. -/
abbrev Slot.watched (x : Slot) : Prop := x.state = .running ∧ x.heartbeat.isSome = true

/-- The slot's recovery is counted, to 15 at most, and its fallback image is selected (R103). -/
def Slot.recovered (x : Slot) : Slot :=
  { x with
    fallback := true
    recoveryCount := if x.recoveryCount < 15 then x.recoveryCount + 1 else 15 }

section Heartbeat

variable {s : State} {i : SlotId}

theorem heartbeatRises_eq (i : SlotId) (s : State) : heartbeatRises i s =
    if (s.slot i).watched then s.setSlot i (s.slot i).beaten else s := by
  by_cases hwatched : (s.slot i).watched
  · rw [if_pos hwatched]
    obtain ⟨hstate, htimer⟩ := hwatched
    obtain ⟨t, ht⟩ := Option.isSome_iff_exists.mp htimer
    simp only [heartbeatRises, hstate, ht]
  · rw [if_neg hwatched]
    simp only [heartbeatRises]
    split
    case h_1 t hstate ht => exact absurd ⟨hstate, by rw [ht]; rfl⟩ hwatched
    case h_2 => rfl

theorem heartbeatRunsOut_of_unwatched (h : ¬ (s.slot i).watched) : heartbeatRunsOut i s = s := by
  simp only [heartbeatRunsOut]
  split
  case h_1 t hstate ht => exact absurd ⟨hstate, by rw [ht]; rfl⟩ h
  case h_2 => rfl

theorem heartbeatRunsOut_of_watched (h : (s.slot i).watched) : heartbeatRunsOut i s =
    if (s.slot i).expiredOnce = false then firstExpiry i s
    else if (s.slot i).fallback then enter i .faulted .supervisionFault none s
    else recover i s := by
  obtain ⟨hstate, htimer⟩ := h
  obtain ⟨t, ht⟩ := Option.isSome_iff_exists.mp htimer
  simp only [heartbeatRunsOut, hstate, ht]

/-- A first expiry tells the supervision entry, sets the mark and reloads the timer (R102). -/
theorem firstExpiry_eq (i : SlotId) (s : State) : firstExpiry i s =
    let told := occur (supervisionEntry i) none s
    told.setSlot i { told.slot i with
      heartbeat := some ((s.slot i).config.supervisionInterval * 100), expiredOnce := true } := by
  simp only [firstExpiry, Slot.beaten, occur_config]

theorem recover_eq (i : SlotId) (s : State) :
    recover i s = enqueue i .recovery (s.setSlot i (s.slot i).recovered) := by
  have hcount : min 15 ((s.slot i).recoveryCount + 1) =
      if (s.slot i).recoveryCount < 15 then (s.slot i).recoveryCount + 1 else 15 := by
    split <;> omega
  simp only [recover, hcount, Slot.recovered]

end Heartbeat

/-! ### SLOT_KICK (R101) -/

section Kick

variable {b : Byte} {i : SlotId} {s : State} (hb : b.toNat = i.val + 1)
include hb

theorem slotKick_of_running (h : s.lifeOf i = .running)
    (hi : (s.slot i).config.supervisionInterval ≠ 0) :
    slotKick [b] s = answer .done (s.setSlot i (s.slot i).beaten) := by
  rw [slotKick, onSlot_of_number hb]
  exact (if_pos h).trans (if_neg hi)

theorem slotKick_of_unsupervised (h : s.lifeOf i = .running)
    (hi : (s.slot i).config.supervisionInterval = 0) : slotKick [b] s = answer .done s := by
  rw [slotKick, onSlot_of_number hb]
  exact (if_pos h).trans (if_pos hi)

theorem slotKick_of_other (h : s.lifeOf i ≠ .running) : slotKick [b] s = answer .wrongState s := by
  rw [slotKick, onSlot_of_number hb]
  exact if_neg h

end Kick

/-- Settles O53: HBEAT by whether the slot is watched, an expiry also by its mark and its fallback flag, and
SLOT_KICK by the slot's state and interval. -/
theorem heartbeatsAndTheirExpiry : Obligations.HeartbeatsAndTheirExpiry := by
  refine ⟨fun s i hrun => ?_, fun s seq b h => ?_⟩
  · intro x interval hbeat watched
    have expires : ∀ {t : State}, heartbeatRunsOut i s = t →
        exec (.heartbeatExpiry i) s = .next t.concluded := fun ht =>
      (run_of_running hrun).trans (by rw [ht])
    refine ⟨(run_of_running hrun).trans ?_, fun hw => expires (heartbeatRunsOut_of_unwatched hw),
      fun hw hmark => expires ?_, fun hw hmark hflag => expires ?_, fun hw hmark hflag => expires ?_⟩
    · rw [edge, deliver, heartbeatRises_eq]; rfl
    · rw [heartbeatRunsOut_of_watched hw, if_pos hmark, firstExpiry_eq]; rfl
    · rw [heartbeatRunsOut_of_watched hw, if_neg (ne_false_of_eq_true hmark),
        if_neg (ne_true_of_eq_false hflag), recover_eq]; rfl
    · rw [heartbeatRunsOut_of_watched hw, if_neg (ne_false_of_eq_true hmark), if_pos hflag]
  · have request : ∀ {code : Byte} {t : State} {r : Result}, slotKick [b] s = answer r t →
        r.code = code → exec (.slotKick seq [b]) s = .next (t.answered seq [code]) :=
      fun hd hr => exec_answer (c := .slotKick) h rfl hd hr
    exact ⟨fun i hb => ⟨fun hs hi => request (slotKick_of_running hb hs hi) rfl,
        fun hs hi => request (slotKick_of_unsupervised hb hs hi) rfl,
        fun hs => request (slotKick_of_other hb hs) rfl⟩,
      fun hb => request (onSlot_of_outside hb s _) rfl⟩

/-! ### SLOT_RECOVERY_CLEAR (R107) -/

/-- A change of one slot's record changes nothing that is read alike from its old and its new record. -/
theorem read_setSlot {α : Type} {s : State} {i : SlotId} {x : Slot} (f : Slot → α)
    (h : f x = f (s.slot i)) (j : SlotId) : f ((s.setSlot i x).slot j) = f (s.slot j) := by
  by_cases hj : j = i
  · subst hj; rwa [State.slot_setSlot]
  · rw [State.slot_setSlot_ne s x hj]

/-- The head of the start queue goes or stays by the slots' states, off times and off timers alone (R115). -/
theorem releasable_setSlot {s : State} {i : SlotId} {x : Slot} (hstate : x.state = (s.slot i).state)
    (hconfig : x.config = (s.slot i).config) (hoff : x.offTimer = (s.slot i).offTimer) :
    (s.setSlot i x).releasable = s.releasable := by
  cases hq : s.staging.startQueue with
  | nil => simp only [State.releasable, State.setSlot_staging, hq]
  | cons p rest =>
    rw [releasable_of_head (u := s.setSlot i x) hq, releasable_of_head hq]
    simp only [State.headGoes, lifeOf_setSlot_of_state hstate, State.setSlot_staging,
      read_setSlot Slot.config hconfig, read_setSlot Slot.offTimer hoff]

/-- A calm state is calm with any record of a slot that makes the same of its sleep, of the power-up in hand and of
its off time. -/
theorem calm_setSlot {s : State} {i : SlotId} {x : Slot} (h : s.calm)
    (hsleep : x.sleepReleasable = (s.slot i).sleepReleasable) (hstate : x.state = (s.slot i).state)
    (hconfig : x.config = (s.slot i).config) (hoff : x.offTimer = (s.slot i).offTimer) :
    (s.setSlot i x).calm := by
  obtain ⟨hwakes, hrestore, hsleepers, hhead⟩ := h
  refine ⟨hwakes, hrestore, ?_, (releasable_setSlot hstate hconfig hoff).trans hhead⟩
  rw [← hsleepers]
  simp only [State.sleepers, read_setSlot Slot.sleepReleasable hsleep]

theorem scopeField_of_outside {scope : Byte} (h : 1 < scope.toNat) : scopeField scope = none :=
  boolField_of_outside h

theorem slotRecoveryClear_of_scope {b scope : Byte} {i : SlotId} {all : Bool} {s : State}
    (hb : b.toNat = i.val + 1) (hscope : scopeField scope = some all) :
    slotRecoveryClear [b, scope] s = answer .done (s.setSlot i { s.slot i with
      fallback := false
      recoveryCount := if all then 0 else (s.slot i).recoveryCount }) := by
  rw [slotRecoveryClear, onSlotWith_of_fields hb hscope]

/-- A running part drives BSEL by the fallback flag (R106). -/
theorem driven_bsel {s : State} (hrun : s.phase = .running) (i : SlotId) :
    (s.driven i).bsel = (s.slot i).fallback := congrArg DrivenLines.bsel (if_pos hrun)

/-- Settles O54, by the scope; nothing follows on the change of a calm part. -/
theorem recoveryClearReleasesBsel : Obligations.RecoveryClearReleasesBsel := by
  intro s seq b h
  have request : ∀ {scope code : Byte} {t : State} {r : Result},
      slotRecoveryClear [b, scope] s = answer r t → r.code = code →
      exec (.slotRecoveryClear seq [b, scope]) s = .next (t.answered seq [code]) :=
    fun hd hr => exec_answer (c := .slotRecoveryClear) h rfl hd hr
  refine ⟨fun i hb => ?_, fun scope hout => request (onSlotWith_of_outside
    ((or_assoc.mpr hout).imp_right scopeField_of_outside) s _) rfl⟩
  obtain ⟨⟨hrun, hcalm, -, -⟩, -⟩ := h
  have released : ∀ x : Slot, x.fallback = false → ((s.setSlot i x).driven i).bsel = false :=
    fun x hx => (driven_bsel (s := s.setSlot i x) hrun i).trans (by rwa [State.slot_setSlot])
  have replied : ∀ {t : State}, t.calm → t.answered seq [0x00] = t.replied seq [0x00] := fun ht => by
    rw [State.answered, finish_of_calm ht]
  exact ⟨request (slotRecoveryClear_of_scope (scope := 0) (all := false) hb rfl) rfl,
    request (slotRecoveryClear_of_scope (scope := 1) (all := true) hb rfl) rfl,
    released _ rfl, released _ rfl, replied (calm_setSlot hcalm rfl rfl rfl rfl),
    replied (calm_setSlot hcalm rfl rfl rfl rfl)⟩

/-! ### The service button (R108, R109) -/

section Button

variable {s : State} {i : SlotId}

theorem claimable_iff : s.claimable i = true ↔
    s.lifeOf i = .off ∧ (s.lineSet i).present.level = true ∧ s.staging.rail = .good := by
  simp only [State.claimable, State.isPresent, State.railGood, Bool.and_eq_true, beq_iff_eq, and_assoc]

/-- A press in OFF clears the override flag and queues a slot that is present at a GOOD rail (R108, R111). -/
theorem pressActs_of_claimable (h : s.lifeOf i = .off) (hp : (s.lineSet i).present.level = true)
    (hr : s.staging.rail = .good) : pressActs i s = enqueue i .button
      ((unlist i s).setSlot i { s.slot i with override := false }) := by
  simp only [pressActs, h, if_pos (claimable_iff.mpr ⟨h, hp, hr⟩), unlist_slot]

theorem pressActs_of_unclaimable (h : s.lifeOf i = .off)
    (hc : (s.lineSet i).present.level = false ∨ s.staging.rail = .lost) : pressActs i s = s := by
  have hnot : ¬ s.claimable i = true := fun hclaim => by
    obtain ⟨-, hp, hr⟩ := claimable_iff.mp hclaim
    rcases hc with hc | hc
    · rw [hp] at hc; cases hc
    · rw [hr] at hc; cases hc
  simp only [pressActs, h, if_neg hnot]

theorem pressActs_of_asleep (h : s.lifeOf i = .asleep) :
    pressActs i s = unlist i (wake i .button s) := by
  simp only [pressActs, h]

theorem pressActs_of_other (h : s.lifeOf i ≠ .off) (ha : s.lifeOf i ≠ .asleep) :
    pressActs i s = s := by
  unfold pressActs
  split
  case h_1 heq => exact absurd heq h
  case h_2 heq => exact absurd heq ha
  all_goals rfl

/-- A press leaves the slot's configuration. -/
theorem pressActs_config (i : SlotId) (s : State) :
    ((pressActs i s).slot i).config = (s.slot i).config := by
  unfold pressActs
  split
  case h_1 =>
    split
    · rw [enqueue_config, State.slot_setSlot]; rfl
    · rfl
  case h_2 hasleep =>
    have hheeds : s.heeds i .button := (heeds_iff s i .button).mpr (.inl (by decide))
    rw [unlist_slot, wake_of_asleep hheeds hasleep, beginWaking_config]
  all_goals rfl

/-- A press starts the hold timer with the override time as it stands at the press (R109). -/
theorem buttonPressed_eq (i : SlotId) (s : State) : buttonPressed i s =
    let acted := pressActs i (occur (buttonEntry i) none s)
    acted.setSlot i { acted.slot i with
      buttonHold := some ((s.slot i).config.overrideTime * 1000) } := by
  simp only [buttonPressed, startHold, pressActs_config, occur_config]

/-! ### The end of the hold timer (R109, R110) -/

@[simp] theorem stopHold_lifeOf (i j : SlotId) (s : State) :
    (stopHold i s).lifeOf j = s.lifeOf j :=
  lifeOf_setSlot_of_state (x := { s.slot i with buttonHold := none }) rfl j

theorem holdRunsOut_of_stopped (h : (s.slot i).buttonHold = none) : holdRunsOut i s = s := by
  simp only [holdRunsOut, h]

theorem setSlot_setSlot (s : State) (i : SlotId) (x y : Slot) :
    (s.setSlot i x).setSlot i y = s.setSlot i y := by simp [State.setSlot]

/-- In OFF the timer ends and nothing else happens. -/
theorem holdRunsOut_of_off (h : (s.slot i).buttonHold.isSome = true) (hs : s.lifeOf i = .off) :
    holdRunsOut i s = stopHold i s := by
  obtain ⟨t, ht⟩ := Option.isSome_iff_exists.mp h
  simp only [holdRunsOut, ht, stopHold_lifeOf, if_pos hs]

/-- In any other state the slot is overridden, its hold timer stopped. -/
theorem holdRunsOut_of_not_off (h : (s.slot i).buttonHold.isSome = true) (hs : s.lifeOf i ≠ .off) :
    holdRunsOut i s = enter i .off .override none
      (s.setSlot i { s.slot i with buttonHold := none, override := true }) := by
  obtain ⟨t, ht⟩ := Option.isSome_iff_exists.mp h
  simp only [holdRunsOut, ht, stopHold_lifeOf, if_neg hs]
  simp only [overrideSlot, stopHold, State.slot_setSlot, setSlot_setSlot]

end Button

/-- Settles O55: a press by the slot's state, its presence and the rail, a release, and the end of the hold by
whether the slot is OFF. -/
theorem buttonsPressHoldAndOverride : Obligations.ButtonsPressHoldAndOverride := by
  intro s i hrun l x taken told held
  have hlife : told.lifeOf i = x.state := occur_lifeOf ..
  have hpresent : (told.lineSet i).present.level = l.present.level := by
    have htaken : (taken true).lineSet i = { l with btn := Line.settled true } :=
      State.lineSet_setLineSet ..
    rw [lineSet_of_outside (occur_outside ..), htaken]
  have hrail : told.staging.rail = s.staging.rail := by rw [occur_staging]; rfl
  have press : l.btn.level = false → ∀ {t : State}, pressActs i told = t →
      exec (.buttonPress i) s = .next (held t).concluded := fun hl t ht => by
    refine run_lineTakes_of_edge (p := .btn i) hrun rfl (Bool.eq_false_iff.mp hl) ?_
    rw [← ht]
    exact buttonPressed_eq i (taken true)
  have expires : ∀ {t : State}, holdRunsOut i s = t →
      exec (.buttonHoldExpiry i) s = .next t.concluded := fun ht =>
    (run_of_running hrun).trans (by rw [ht])
  refine ⟨fun hl => ⟨fun hs hp hr => press hl ?_, fun hs hc => press hl ?_, fun hs => press hl ?_,
      fun hs ha => press hl ?_⟩,
    fun hl => run_lineTakes_of_level (p := .btn i) hrun rfl hl,
    fun hl => run_lineTakes_of_edge (p := .btn i) hrun rfl (by simp [l, hl]) rfl,
    fun hl => run_lineTakes_of_level (p := .btn i) hrun rfl hl,
    fun hx => expires (holdRunsOut_of_stopped hx),
    fun hx hs => expires (holdRunsOut_of_off hx hs),
    fun hx hs => expires (holdRunsOut_of_not_off hx hs)⟩
  · exact pressActs_of_claimable (hlife.trans hs) (hpresent.trans hp) (hrail.trans hr)
  · exact pressActs_of_unclaimable (hlife.trans hs) (by rwa [hpresent, hrail])
  · exact pressActs_of_asleep (hlife.trans hs)
  · exact pressActs_of_other (by rwa [hlife]) (by rwa [hlife])

end Sys2Proof.Machine
end

section
/-! PROOF. One power-up at a time (R115), and the start queue (R114): two properties of the slots' states and the
start queue alone, kept by every primitive change of State (O9, the first half of O10). -/

namespace Sys2Proof.Machine

/-! ### Properties of the slots' states and the start queue -/

/-- A property that reads the slots' states and the start queue alone is closed when transitions and claims keep
it, and when it holds with every slot down and the start queue empty. -/
theorem closed_of_standing {P : State → Prop}
    (frame : ∀ {s t : State}, P s → t.staging.startQueue = s.staging.startQueue →
      (∀ i, t.lifeOf i = s.lifeOf i) → P t)
    (down : ∀ {s : State}, (∀ i, s.lifeOf i = .off ∨ s.lifeOf i = .faulted) →
      s.staging.startQueue = [] → P s)
    (enter : ∀ {s : State} {i : SlotId} {target : LifeState} {cause : Cause}
      {step : Option StepTimer}, P s → target ≠ .queued →
      (target = .powering → s.powerUpBusy = false) → (target = .releasing → s.lifeOf i = .powering) →
      P (enter i target cause step s))
    (enqueue : ∀ {s : State} {i : SlotId} {o : QueueOrigin}, P s → P (enqueue i o s)) : Closed P :=
  have stands : ∀ {s t : State}, P s → t.StandsAs s → P t := fun h ht => frame h ht.queue ht.life
  { inside := fun h _ _ _ hs hu _ _ _ => stands h (standsAs_of_slots (by rw [hu]) hs)
    staging := fun h hq _ _ _ => stands h (standsAs_of_slots hq rfl)
    unlist := fun h => stands h (standsAs_unlist _ _)
    emptied := fun _ hdown hq _ _ => down hdown hq
    returned := fun h _ => stands h (standsAs_of_slots rfl rfl)
    slot := fun h hstate _ _ hflag _ => stands h (standsAs_setSlot hstate hflag)
    slots := fun h hf => stands h (standsAs_mapSlots fun i x => by
      obtain ⟨hstate, -, -, hflag, -⟩ := hf i x; exact ⟨hstate, hflag⟩)
    hold := fun h => stands h (standsAs_setSlot rfl (.inl rfl))
    unhold := fun h _ => stands h (standsAs_setSlot rfl (.inl rfl))
    discard := fun h => stands h (standsAs_mapSlots fun _ _ => ⟨rfl, rfl⟩)
    counted := fun h => stands h (standsAs_counted _)
    cold := fun {s reason} _ => down (fun i => .inl (coldStart_slot reason s i).1) rfl
    enter := fun h hq hp hr _ _ => enter h hq (fun e => absurd e hp) hr
    release := fun h _ hbusy _ => enter h (by decide) (fun _ => hbusy) nofun
    enqueue := fun h _ _ _ _ => enqueue h
    shed := fun h _ _ hact => by
      rcases hact with ⟨-, rfl⟩ | ⟨-, rfl⟩ <;>
        exact enter (stands h (standsAs_of_slots rfl rfl)) (by decide) nofun nofun
    override := fun h => enter (frame h rfl (lifeOf_setSlot_of_state rfl)) (by decide) nofun nofun
    occur := fun h => stands h (standsAs_occur _ _ _)
    clearEntry := fun h => stands h (standsAs_clearEntry _ _)
    reconfigure := fun h => stands h (standsAs_reconfigure _ _ _)
    channel := fun h _ _ _ _ => stands h (standsAs_of_slots (by simp) (by simp))
    compose := fun h => stands h (standsAs_of_slots (by simp) (by simp))
    endNotice := fun h _ => stands h
      (standsAs_of_slots (by rw [endNotice_staging]) (endNotice_slots _ _ _))
    restart := fun h => stands h (standsAs_of_slots rfl rfl) }

/-! ### One power-up at a time (R115) -/

theorem onePowerUp_of_down {s : State} (h : ∀ i, s.lifeOf i = .off ∨ s.lifeOf i = .faulted) :
    s.onePowerUp := by
  intro i j hi
  rcases h i with hlife | hlife <;> rw [hlife] at hi <;> cases hi

/-- A slot may begin a power-up, or go on with its own, when no other slot is in one. -/
theorem onePowerUp_enter {s : State} {i : SlotId} {target : LifeState} (cause : Cause)
    (step : Option StepTimer) (h : s.onePowerUp)
    (hi : target.inPowerUp = true → ∀ j, j ≠ i → (s.lifeOf j).inPowerUp = false) :
    (enter i target cause step s).onePowerUp := by
  have only : target.inPowerUp = true → ∀ j,
      ((enter i target cause step s).lifeOf j).inPowerUp = true → j = i := by
    intro htarget j hj
    by_contra hne
    rw [enter_lifeOf_ne _ _ _ _ hne, hi htarget j hne] at hj
    cases hj
  have other : target.inPowerUp = false → ∀ j,
      ((enter i target cause step s).lifeOf j).inPowerUp = true → (s.lifeOf j).inPowerUp = true := by
    intro htarget j hj
    by_cases hji : j = i
    · subst hji
      rw [enter_lifeOf, htarget] at hj
      cases hj
    · rwa [enter_lifeOf_ne _ _ _ _ hji] at hj
  intro j k hj hk
  cases htarget : target.inPowerUp
  · exact h j k (other htarget j hj) (other htarget k hk)
  · exact (only htarget j hj).trans (only htarget k hk).symm

/-- POWERING is entered with no slot in a power-up (R115), RELEASING by the slot that is in POWERING (R61). -/
theorem closed_onePowerUp : Closed State.onePowerUp := by
  refine closed_of_standing (fun h _ hlife i j hi hj => ?_) (fun hdown _ => onePowerUp_of_down hdown)
    (fun {s i target _ _} h _ hpowering hreleasing => ?_) (fun h => ?_)
  · rw [hlife] at hi hj
    exact h i j hi hj
  · refine onePowerUp_enter _ _ h fun htarget j hj => ?_
    rcases (inPowerUp_iff target).mp htarget with htarget | htarget
    · exact (inPowerUp_eq_false_iff _).mpr ((powerUpBusy_eq_false_iff s).mp (hpowering htarget) j)
    · refine Bool.eq_false_iff.mpr fun hbusy => hj (h j i hbusy ?_)
      rw [hreleasing htarget]; rfl
  · exact onePowerUp_enter _ _ h nofun

/-- Settles O9: one power-up at a time is closed under every primitive change of State, and so under every step. -/
theorem onePowerUpAtATime : Obligations.OnePowerUpAtATime :=
  fun _ _ hs ht => closed_onePowerUp.step id hs ht

/-! ### The start queue (R114) -/

theorem startQueueAgrees_of_down {s : State} (hdown : ∀ i, s.lifeOf i = .off ∨ s.lifeOf i = .faulted)
    (hq : s.staging.startQueue = []) : s.startQueueAgrees :=
  startQueueAgrees_of_empty hq fun i => by rcases hdown i with hi | hi <;> simp [hi]

theorem closed_startQueueAgrees : Closed State.startQueueAgrees :=
  closed_of_standing startQueueAgrees_of_frame startQueueAgrees_of_down
    (fun h hq _ _ => startQueueAgrees_enter _ _ _ h hq) (fun h => startQueueAgrees_enqueue _ _ h)

end Sys2Proof.Machine
end

section
/-! PROOF. The shed list (R123, R124), the lost rail (R119, R120) and the waiting wake requests (R11): with the
start queue they are kept by every primitive change of State (the second half of O10). -/

namespace Sys2Proof.Machine

/-! ### Where a listed slot stands -/

theorem shedAsListed_of_same {s t : State} {p : ShedPlace} (h : s.shedAsListed p)
    (hlife : t.lifeOf p.slot = s.lifeOf p.slot)
    (hwake : (t.slot p.slot).deferredWake = (s.slot p.slot).deferredWake) : t.shedAsListed p := by
  rwa [State.shedAsListed, hlife, hwake]

theorem mayBeListed_of_shedAsListed {s : State} {p : ShedPlace} (h : s.shedAsListed p) :
    (s.lifeOf p.slot).mayBeListed = true := by
  rcases h with ⟨-, h | ⟨h, -⟩⟩ | ⟨-, h | h⟩ <;> rw [h] <;> rfl

/-- The states to which a shed action brings its slot (R123). -/
def ShedAction.bringsTo (action : ShedAction) (target : LifeState) : Prop :=
  (action = .sleep ∧ (target = .asleep ∨ target = .entering)) ∨
    (action = .stop ∧ (target = .stopping ∨ target = .off))

/-- A slot that has just entered a state has no deferred wake, so that its shed action alone says whether it
stands as listed. -/
theorem shedAsListed_enter {s : State} {p : ShedPlace} {target : LifeState} (cause : Cause)
    (step : Option StepTimer) (h : p.action.bringsTo target) :
    (enter p.slot target cause step s).shedAsListed p := by
  rw [State.shedAsListed, enter_lifeOf, enter_deferredWake]
  rcases h with ⟨ha, ht⟩ | ⟨ha, ht⟩
  · exact .inl ⟨ha, ht.imp_right fun he => ⟨he, rfl⟩⟩
  · exact .inr ⟨ha, ht⟩

/-- A transition that agrees with the shed list takes its slot out of it or goes on where its shedding has brought
it. -/
theorem leaves_or_bringsTo {s : State} {p : ShedPlace} {target : LifeState} {cause : Cause}
    (h : s.shedAsListed p) (hp : p ∈ s.staging.shedList) (hm : s.mayEnter p.slot target cause) :
    leavesShedList target cause = true ∨ p.action.bringsTo target := by
  have hlisted : s.listed p.slot = true := (listed_iff s p.slot).mpr (List.mem_map_of_mem hp)
  rcases hm with hm | hm | hm | ⟨hlife, hm⟩ | ⟨hlife, hm⟩
  · rw [hlisted] at hm; cases hm
  · rw [mayBeListed_of_shedAsListed h] at hm; cases hm
  · exact .inl hm
  · rcases h with ⟨ha, h | ⟨-, hw⟩⟩ | ⟨-, h | h⟩
    · rw [hlife] at h; cases h
    · exact .inr (.inl ⟨ha, .inl (hm.resolve_right fun hne => hne hw)⟩)
    · rw [hlife] at h; cases h
    · rw [hlife] at h; cases h
  · rcases h with ⟨-, h | ⟨h, -⟩⟩ | ⟨ha, -⟩
    · rw [hlife] at h; cases h
    · rw [hlife] at h; cases h
    · exact .inr (.inr ⟨ha, .inr hm⟩)

/-! ### Changes that list no further slot -/

/-- A state whose lists come from another's: every slot in the same state and at the same place in the start queue,
no further listed slot and none with another deferred wake, the rail LOST only where it was, no settle timer
started but at a LOST rail, and no further wake request but those of occurrences. -/
structure State.ListsAs (t s : State) : Prop where
  queue : t.staging.startQueue = s.staging.startQueue
  shed : t.staging.shedList.Sublist s.staging.shedList
  lost : t.staging.rail = .lost → s.staging.rail = .lost
  settle : t.staging.settleTimer.isSome = true → t.staging.rail = .lost ∨
    (s.staging.settleTimer.isSome = true ∧ t.staging.rail = s.staging.rail)
  life : ∀ i, t.lifeOf i = s.lifeOf i
  deferred : ∀ i, s.listed i = true → (t.slot i).deferredWake = (s.slot i).deferredWake
  wakes : ∀ w ∈ t.wakes, w ∈ s.wakes ∨ w.origin = .wakeEvent

theorem shedListAgrees_of_listsAs {s t : State} (h : s.shedListAgrees) (ht : t.ListsAs s) :
    t.shedListAgrees := by
  obtain ⟨honce, hplaces, hlost, hsettle, hwakes⟩ := h
  refine ⟨honce.sublist (ht.shed.map _), fun p hp => ?_, fun hrail => ?_, fun htimer => ?_,
    fun w hw => (ht.wakes w hw).elim (hwakes w) id⟩
  · have hin : p ∈ s.staging.shedList := ht.shed.subset hp
    obtain ⟨hstands, hunqueued⟩ := hplaces p hin
    rw [ht.queue]
    exact ⟨shedAsListed_of_same hstands (ht.life _)
      (ht.deferred _ ((listed_iff s _).mpr (List.mem_map_of_mem hin))), hunqueued⟩
  · obtain ⟨hdown, hqueue, hshed⟩ := hlost (ht.lost hrail)
    exact ⟨fun i => by rw [ht.life]; exact hdown i, ht.queue.trans hqueue,
      List.sublist_nil.mp (hshed ▸ ht.shed)⟩
  · rcases ht.settle htimer with hrail | ⟨hold, hrail⟩
    · exact hrail
    · exact hrail.trans (hsettle hold)

/-- A change that leaves the Staging Unit's lists, rail and settle timer. -/
theorem listsAs_of_staging {s t : State} (hstaging : t.staging = s.staging)
    (hlife : ∀ i, t.lifeOf i = s.lifeOf i)
    (hdeferred : ∀ i, s.listed i = true → (t.slot i).deferredWake = (s.slot i).deferredWake)
    (hwakes : ∀ w ∈ t.wakes, w ∈ s.wakes ∨ w.origin = .wakeEvent) : t.ListsAs s where
  queue := by rw [hstaging]
  shed := by rw [hstaging]
  lost := by rw [hstaging]; exact id
  settle h := by rw [hstaging] at h ⊢; exact .inr ⟨h, rfl⟩
  life := hlife
  deferred := hdeferred
  wakes := hwakes

theorem listsAs_of_slots {s t : State} (hstaging : t.staging = s.staging) (hs : t.slots = s.slots)
    (hwakes : ∀ w ∈ t.wakes, w ∈ s.wakes ∨ w.origin = .wakeEvent) : t.ListsAs s :=
  listsAs_of_staging hstaging (fun i => by rw [State.lifeOf, slot_of_slots hs]; rfl)
    (fun i _ => by rw [slot_of_slots hs]) hwakes

/-- A change of hold counts and the table. -/
theorem listsAs_of_unheld {s t : State} (hstaging : t.staging = s.staging)
    (hu : ∀ i, (t.slot i).unheld = (s.slot i).unheld)
    (hwakes : ∀ w ∈ t.wakes, w ∈ s.wakes ∨ w.origin = .wakeEvent) : t.ListsAs s :=
  listsAs_of_staging hstaging (fun i => Slot.state_of_unheld (hu i))
    (fun i _ => by rw [Slot.eq_of_unheld (hu i)]) hwakes

theorem listsAs_setStaging {s : State} {u : Staging} (hq : u.startQueue = s.staging.startQueue)
    (hshed : u.shedList.Sublist s.staging.shedList)
    (hlost : u.rail = .lost → s.staging.rail = .lost)
    (hsettle : u.settleTimer.isSome = true → u.rail = .lost ∨
      (s.staging.settleTimer.isSome = true ∧ u.rail = s.staging.rail)) :
    (s.setStaging u).ListsAs s where
  queue := hq
  shed := hshed
  lost := hlost
  settle := hsettle
  life _ := rfl
  deferred _ _ := rfl
  wakes _ hw := .inl hw

/-- The Staging Unit's record with the same lists and rail, the settle timer left, stopped, or running at a LOST
rail. -/
theorem listsAs_setStaging_of_rail {s : State} {u : Staging}
    (hq : u.startQueue = s.staging.startQueue) (hshed : u.shedList = s.staging.shedList)
    (hrail : u.rail = s.staging.rail) (hsettle : u.settleTimer = s.staging.settleTimer ∨
      u.settleTimer = none ∨ s.staging.rail = .lost) : (s.setStaging u).ListsAs s := by
  refine listsAs_setStaging hq (by rw [hshed]) (by rw [hrail]; exact id) fun htimer => ?_
  rcases hsettle with hsame | hnone | hlost
  · exact .inr ⟨hsame ▸ htimer, hrail⟩
  · rw [hnone] at htimer; cases htimer
  · exact .inl (hrail.trans hlost)

theorem listsAs_unlist (i : SlotId) (s : State) : (unlist i s).ListsAs s := by
  refine listsAs_setStaging (unlisted_startQueue _ i) ?_ (by rw [unlisted_rail]; exact id)
    fun htimer => .inr ⟨by rwa [unlisted_settleTimer] at htimer, unlisted_rail _ i⟩
  rw [unlisted_shedList]
  exact List.filter_sublist

theorem listsAs_setSlot {s : State} {i : SlotId} {x : Slot} (hstate : x.state = (s.slot i).state)
    (hwake : s.listed i = true → x.deferredWake = (s.slot i).deferredWake) :
    (s.setSlot i x).ListsAs s := by
  refine listsAs_of_staging rfl (lifeOf_setSlot_of_state hstate) (fun j hj => ?_) fun _ hw => .inl hw
  by_cases hji : j = i
  · subst hji; rw [State.slot_setSlot]; exact hwake hj
  · rw [State.slot_setSlot_ne s x hji]

theorem listsAs_mapSlots {s : State} {f : SlotId → Slot → Slot}
    (hf : ∀ i x, (f i x).state = x.state ∧ (f i x).deferredWake = x.deferredWake) :
    (s.mapSlots f).ListsAs s := by
  refine listsAs_of_staging rfl (fun i => ?_) (fun i _ => ?_) fun _ hw => .inl hw <;>
    obtain ⟨hstate, hwake⟩ := hf i (s.slot i)
  · rwa [State.lifeOf, State.slot_mapSlots]
  · rwa [State.slot_mapSlots]

theorem counted_slot (s : State) (i : SlotId) : s.counted.slot i = (s.slot i).counted := by
  simp [State.counted, State.slot]

theorem listsAs_counted (s : State) : s.counted.ListsAs s where
  queue := rfl
  shed := .refl _
  lost := id
  settle h := .inr ⟨by simpa [State.counted, Staging.counted, countDown] using h, rfl⟩
  life i := by rw [State.lifeOf, counted_slot]; rfl
  deferred i _ := by rw [counted_slot]; rfl
  wakes _ hw := .inl hw

/-- An occurrence sends wake requests of its own alone (R11). -/
theorem occur_wakes_origin (e : EntryId) (d : Option Half) (s : State) :
    ∀ w ∈ (occur e d s).wakes, w ∈ s.wakes ∨ w.origin = .wakeEvent := by
  intro w hw
  rw [occur_wakes, List.mem_append] at hw
  refine hw.imp_right fun hsent => ?_
  split at hsent
  · obtain ⟨i, -, rfl⟩ := List.mem_map.mp hsent
    rfl
  · cases hsent

theorem listsAs_occur (e : EntryId) (d : Option Half) (s : State) : (occur e d s).ListsAs s :=
  listsAs_of_unheld (occur_staging ..) (occur_unheld e d s) (occur_wakes_origin e d s)

theorem listsAs_clearEntry (e : EntryId) (s : State) : (clearEntry e s).ListsAs s :=
  listsAs_of_unheld (clearEntry_staging ..) (fun i => by rw [clearEntry_slot]; rfl)
    fun w hw => .inl (by rwa [clearEntry_wakes] at hw)

theorem listsAs_reconfigure (e : EntryId) (new : Entry) (s : State) :
    (reconfigure e new s).ListsAs s := by
  unfold reconfigure
  extract_lets placed
  have hstaging : placed.staging = s.staging := by simp [placed]
  have hunheld : ∀ i, (placed.slot i).unheld = (s.slot i).unheld := fun i => by
    rw [slot_of_slots (replace_slots e _), replaceEntry_slot]; rfl
  have hwakes : placed.wakes = s.wakes := replace_wakes e _
  split
  · exact listsAs_of_unheld ((occur_staging ..).trans hstaging)
      (fun i => (occur_unheld ..).trans (hunheld i))
      fun w hw => hwakes ▸ occur_wakes_origin e none placed w hw
  · exact listsAs_of_unheld hstaging hunheld fun w hw => .inl (hwakes ▸ hw)

/-! ### Transitions and claims -/

/-- The shed list agrees, but for the place of one slot that is about to move. -/
structure State.ShedListAgreesBut (s : State) (i : SlotId) : Prop where
  once : (s.staging.shedList.map ShedPlace.slot).Nodup
  others : ∀ p ∈ s.staging.shedList, p.slot ≠ i → s.shedAsListed p ∧
    p.slot ∉ s.staging.startQueue.map QueuePlace.slot
  lost : s.staging.rail = .lost → (∀ j, s.lifeOf j = .off ∨ s.lifeOf j = .faulted) ∧
    s.staging.startQueue = [] ∧ s.staging.shedList = []
  settle : s.staging.settleTimer.isSome = true → s.staging.rail = .lost
  wakes : ∀ w ∈ s.wakes, w.origin = .wakeEvent

theorem shedListAgreesBut {s : State} (h : s.shedListAgrees) (i : SlotId) : s.ShedListAgreesBut i := by
  obtain ⟨honce, hplaces, hlost, hsettle, hwakes⟩ := h
  exact ⟨honce, fun p hp _ => hplaces p hp, hlost, hsettle, hwakes⟩

/-- A transition sends no wake request but those of the occurrence that reports it (R11, R56). -/
theorem enter_wakes_origin (i : SlotId) (target : LifeState) (cause : Cause)
    (step : Option StepTimer) (s : State) :
    ∀ w ∈ (enter i target cause step s).wakes, w ∈ s.wakes ∨ w.origin = .wakeEvent := by
  cases h : target.reported
  · rw [enter_of_unreported _ _ _ h]; exact fun w hw => .inl hw
  · rw [enter_of_reported _ _ _ h]; exact occur_wakes_origin _ _ _

/-- A transition adds to neither list. -/
theorem enter_lists_subset (i : SlotId) (target : LifeState) (cause : Cause)
    (step : Option StepTimer) (s : State) :
    (enter i target cause step s).staging.startQueue.Sublist s.staging.startQueue ∧
      (enter i target cause step s).staging.shedList.Sublist s.staging.shedList := by
  rw [enter_staging, told_startQueue, told_shedList]
  constructor <;> split
  · exact List.filter_sublist
  · exact .refl _
  · exact List.filter_sublist
  · exact .refl _

/-- A transition keeps the shed list in agreement when it takes its slot out of the list or to where its shedding
brings it, and when at a LOST rail it leads to OFF. -/
theorem shedListAgrees_enter {s : State} {i : SlotId} {target : LifeState} (cause : Cause)
    (step : Option StepTimer) (h : s.ShedListAgreesBut i) (hq : s.startQueueAgrees)
    (hself : ∀ p ∈ s.staging.shedList, p.slot = i →
      leavesShedList target cause = true ∨ p.action.bringsTo target)
    (hoff : s.staging.rail = .lost → target = .off) :
    (enter i target cause step s).shedListAgrees := by
  have hrail : (enter i target cause step s).staging.rail = s.staging.rail := by
    rw [enter_staging, told_rail]
  obtain ⟨hqueue, hshed⟩ := enter_lists_subset i target cause step s
  refine ⟨h.once.sublist (hshed.map _), fun p hp => ?_, fun hlost => ?_, fun htimer => ?_,
    fun w hw => (enter_wakes_origin i target cause step s w hw).elim (h.wakes w) id⟩
  · have hin : p ∈ s.staging.shedList := hshed.subset hp
    rw [enter_queuedSlots hq]
    by_cases hi : p.slot = i
    · subst hi
      have hstays : ¬ leavesShedList target cause = true := fun hleaves => by
        rw [enter_staging, told_shedList, if_pos hleaves] at hp
        simp at hp
      exact ⟨shedAsListed_enter cause step ((hself p hin rfl).resolve_left hstays), by simp⟩
    · obtain ⟨hstands, hunqueued⟩ := h.others p hin hi
      exact ⟨shedAsListed_of_same hstands (enter_lifeOf_ne _ _ _ _ hi)
        (enter_deferredWake_ne _ _ _ _ hi), fun hmem => hunqueued (List.mem_of_mem_filter hmem)⟩
  · rw [hrail] at hlost
    obtain ⟨hdown, hqueued, hlisted⟩ := h.lost hlost
    rw [hqueued] at hqueue
    rw [hlisted] at hshed
    refine ⟨fun j => ?_, List.sublist_nil.mp hqueue, List.sublist_nil.mp hshed⟩
    by_cases hj : j = i
    · subst hj; rw [enter_lifeOf]; exact .inl (hoff hlost)
    · rw [enter_lifeOf_ne _ _ _ _ hj]; exact hdown j
  · rw [hrail]
    rw [enter_staging, told_settleTimer] at htimer
    exact h.settle htimer

/-- A slot whose rail is on is not OFF or FAULTED, and so the main rail is not LOST. -/
theorem not_lost_of_up {s : State} (h : s.shedListAgrees) {i : SlotId} (hoff : s.lifeOf i ≠ .off)
    (hfaulted : s.lifeOf i ≠ .faulted) : s.staging.rail ≠ .lost := by
  obtain ⟨-, -, hlost, -⟩ := h
  intro hrail
  obtain ⟨hdown, -⟩ := hlost hrail
  exact (hdown i).elim hoff hfaulted

/-- A slot in a state in which no listed slot is found is not listed. -/
theorem unlisted_of_state {s : State} (h : s.shedListAgrees) {i : SlotId}
    (hi : (s.lifeOf i).mayBeListed = false) : s.listed i = false := by
  obtain ⟨-, hplaces, -⟩ := h
  rw [Bool.eq_false_iff, Ne, listed_iff, List.mem_map]
  rintro ⟨p, hp, rfl⟩
  obtain ⟨hstands, -⟩ := hplaces p hp
  rw [mayBeListed_of_shedAsListed hstands] at hi
  cases hi

theorem not_mem_shedList {s : State} {i : SlotId} (h : s.listed i = false) :
    ∀ p ∈ s.staging.shedList, p.slot ≠ i := by
  rintro p hp rfl
  rw [(listed_iff s p.slot).mpr (List.mem_map_of_mem hp)] at h
  cases h

/-- A claim of a slot that is not listed, at a rail that is not LOST, adds it to the start queue alone. -/
theorem shedListAgrees_enqueue {s : State} {i : SlotId} (o : QueueOrigin) (h : s.shedListAgrees)
    (hq : s.startQueueAgrees) (hlisted : s.listed i = false) (hrail : s.staging.rail ≠ .lost) :
    (enqueue i o s).shedListAgrees := by
  have hqueued : (enter i .queued o.cause none s).shedListAgrees :=
    shedListAgrees_enter _ _ (shedListAgreesBut h i) hq
      (fun p hp hi => absurd hi (not_mem_shedList hlisted p hp)) fun hlost => absurd hlost hrail
  obtain ⟨honce, hplaces, -, hsettle, hwakes⟩ := hqueued
  have hkept : (enter i .queued o.cause none s).staging.rail = s.staging.rail := by
    rw [enter_staging, told_rail]
  have hshed : (enter i .queued o.cause none s).staging.shedList = s.staging.shedList := by
    rw [enter_staging, told_shedList]; rfl
  refine ⟨honce, fun p hp => ?_, fun hlost => absurd (hkept.symm.trans hlost) hrail, hsettle, hwakes⟩
  obtain ⟨hstands, hunqueued⟩ := hplaces p hp
  refine ⟨hstands, ?_⟩
  have hne : p.slot ≠ i := not_mem_shedList hlisted p (hshed ▸ hp)
  have hqueue : (enqueue i o s).staging.startQueue.map QueuePlace.slot =
      (enter i .queued o.cause none s).staging.startQueue.map QueuePlace.slot ++ [i] :=
    List.map_append
  rw [hqueue, List.mem_append, not_or]
  exact ⟨hunqueued, by simpa using hne⟩

/-- A slot that is shed joins the tail of the shed list and goes where its action takes it (R123). -/
theorem shedListAgrees_shed {s : State} {i : SlotId} {action : ShedAction} {target : LifeState}
    (cause : Cause) (step : Option StepTimer) (h : s.shedListAgrees) (hq : s.startQueueAgrees)
    (hlife : s.lifeOf i = .running ∨ s.lifeOf i = .sleepWait) (hlisted : s.listed i = false)
    (hbrings : action.bringsTo target) :
    (enter i target cause step (s.setStaging { s.staging with
      shedList := s.staging.shedList ++ [{ slot := i, action := action }] })).shedListAgrees := by
  have hgood : s.staging.rail ≠ .lost := not_lost_of_up (i := i) h
    (by rcases hlife with e | e <;> rw [e] <;> decide) (by rcases hlife with e | e <;> rw [e] <;> decide)
  obtain ⟨honce, hplaces, -, hsettle, hwakes⟩ := h
  have hmem : ∀ p ∈ s.staging.shedList ++ [({ slot := i, action := action } : ShedPlace)],
      p ∈ s.staging.shedList ∨ p = { slot := i, action := action } := fun p hp => by
    simpa using hp
  refine shedListAgrees_enter cause step ⟨?_, fun p hp hne => ?_, fun hlost => absurd hlost hgood,
    hsettle, hwakes⟩ (startQueueAgrees_of_frame hq rfl fun _ => rfl) (fun p hp hi => ?_)
    fun hlost => absurd hlost hgood
  · change ((s.staging.shedList ++ [_]).map ShedPlace.slot).Nodup
    rw [List.map_append]
    exact honce.append (List.nodup_singleton i) (List.disjoint_singleton.mpr fun hin =>
      by rw [← listed_iff, hlisted] at hin; cases hin)
  · rcases hmem p hp with hold | rfl
    · exact hplaces p hold
    · exact absurd rfl hne
  · rcases hmem p hp with hold | rfl
    · exact absurd hi (not_mem_shedList hlisted p hold)
    · exact .inr hbrings

/-! ### Closure -/

/-- Both lists agree with the slots' states. -/
abbrev State.listsAgree (s : State) : Prop := s.startQueueAgrees ∧ s.shedListAgrees

theorem listsAgree_of_listsAs {s t : State} (h : s.listsAgree) (ht : t.ListsAs s) : t.listsAgree :=
  ⟨startQueueAgrees_of_frame h.1 ht.queue ht.life, shedListAgrees_of_listsAs h.2 ht⟩

/-- Every waiting wake request is one that a listed slot ignores (R93). -/
theorem not_strayWake_listsAgree : ¬ strayWake State.listsAgree := by
  rintro ⟨s, ⟨-, -, -, -, -, hwakes⟩, w, hw, horigin⟩
  rw [hwakes w hw] at horigin
  cases horigin

theorem shedListAgrees_coldStart (reason : RestartReason) (s : State) :
    (coldStart reason s).shedListAgrees :=
  ⟨List.nodup_nil, nofun, fun _ => ⟨fun i => .inl (coldStart_slot reason s i).1, rfl, rfl⟩,
    fun _ => rfl, nofun⟩

theorem listsAgree_coldStart (reason : RestartReason) (s : State) :
    (coldStart reason s).listsAgree :=
  ⟨startQueueAgrees_of_down (fun i => .inl (coldStart_slot reason s i).1) rfl,
    shedListAgrees_coldStart reason s⟩

/-- A rail loss empties both lists (R119). -/
theorem listsAgree_emptied {s : State} {u : Staging} (h : s.listsAgree)
    (hdown : ∀ i, s.lifeOf i = .off ∨ s.lifeOf i = .faulted) (hq : u.startQueue = [])
    (hshed : u.shedList = []) (hrail : u.rail = .lost) : (s.setStaging u).listsAgree := by
  obtain ⟨-, -, -, -, -, hwakes⟩ := h
  refine ⟨startQueueAgrees_of_down hdown hq, ?_, ?_, fun _ => ⟨hdown, hq, hshed⟩, fun _ => hrail,
    hwakes⟩
  · rw [State.setStaging_staging, hshed]; exact List.nodup_nil
  · rw [State.setStaging_staging, hshed]; nofun

/-- At a LOST rail, where no slot's rail is on, every transition leads to OFF. -/
theorem off_of_lost {s : State} {i : SlotId} {target : LifeState} (h : s.listsAgree)
    (hup : target = .off ∨ (s.lifeOf i).railOn = true) (hlost : s.staging.rail = .lost) :
    target = .off := by
  refine hup.resolve_right fun hon => ?_
  obtain ⟨hoff, -, hfaulted⟩ := (railOn_iff _).mp hon
  exact not_lost_of_up h.2 hoff hfaulted hlost

/-- A transition that agrees with the shed list and the rail keeps both lists in agreement. -/
theorem listsAgree_enter {s : State} {i : SlotId} {target : LifeState} {cause : Cause}
    (step : Option StepTimer) (h : s.listsAgree) (hq : target ≠ .queued)
    (hoff : s.staging.rail = .lost → target = .off) (hm : s.mayEnter i target cause) :
    (enter i target cause step s).listsAgree := by
  refine ⟨startQueueAgrees_enter _ _ _ h.1 hq, shedListAgrees_enter _ _ (shedListAgreesBut h.2 i) h.1
    (fun p hp hi => ?_) hoff⟩
  subst hi
  obtain ⟨-, -, hplaces, -⟩ := h
  exact leaves_or_bringsTo (hplaces p hp).1 hp hm

/-- The head of the start queue is not listed. -/
theorem listed_of_head {s : State} {p : QueuePlace} {rest : List QueuePlace} (h : s.listsAgree)
    (hq : s.staging.startQueue = p :: rest) : s.listed p.slot = false :=
  unlisted_of_state h.2 (by rw [lifeOf_of_head h.1 hq]; rfl)

/-- A slot may be claimed at a GOOD rail or from RUNNING; it is not listed, or the rail was LOST and the shed list
is empty. -/
theorem listsAgree_enqueue {s : State} {i : SlotId} (o : QueueOrigin) (h : s.listsAgree)
    (hrail : s.staging.rail = .good ∨ s.lifeOf i = .running)
    (hlisted : s.listed i = false ∨ s.lifeOf i = .running ∨ s.staging.shedList = []) :
    (enqueue i o s).listsAgree := by
  refine ⟨startQueueAgrees_enqueue _ _ h.1, shedListAgrees_enqueue o h.2 h.1 ?_ ?_⟩
  · rcases hlisted with hno | hrun | hempty
    · exact hno
    · exact unlisted_of_state h.2 (by rw [hrun]; rfl)
    · rw [State.listed, hempty]; rfl
  · rcases hrail with hgood | hrun
    · rw [hgood]; decide
    · exact not_lost_of_up (i := i) h.2 (by rw [hrun]; decide) (by rw [hrun]; decide)

/-- Where a settle runs or the rail is LOST, the shed list is empty (R119, R120). -/
theorem shedList_of_settling {s : State} (h : s.listsAgree)
    (hs : s.staging.settleTimer.isSome = true ∨ s.staging.rail = .lost) :
    s.staging.shedList = [] := by
  obtain ⟨-, -, -, hlost, hsettle, -⟩ := h
  obtain ⟨-, -, hshed⟩ := hlost (hs.elim hsettle id)
  exact hshed

theorem closed_listsAgree : Closed State.listsAgree where
  inside h _ _ _ hs hu _ hw _ := listsAgree_of_listsAs h (listsAs_of_slots hu hs fun _ hin => .inl (hw hin))
  staging h hq hshed hrail hsettle :=
    listsAgree_of_listsAs h (listsAs_setStaging_of_rail hq hshed hrail hsettle)
  unlist h := listsAgree_of_listsAs h (listsAs_unlist _ _)
  emptied h hdown hq hshed hrail := listsAgree_emptied h hdown hq hshed hrail
  returned h _ := listsAgree_of_listsAs h (listsAs_setStaging rfl (.refl _) nofun nofun)
  slot h hstate _ _ _ hwake := listsAgree_of_listsAs h (listsAs_setSlot hstate fun hlisted => by
    rcases hwake with hsame | hno | hstray
    · exact hsame
    · rw [hlisted] at hno; cases hno
    · exact absurd hstray not_strayWake_listsAgree)
  slots h hf := listsAgree_of_listsAs h (listsAs_mapSlots fun i x => by
    obtain ⟨hstate, -, -, -, hwake⟩ := hf i x; exact ⟨hstate, hwake⟩)
  hold h := listsAgree_of_listsAs h (listsAs_setSlot rfl fun _ => rfl)
  unhold h _ := listsAgree_of_listsAs h (listsAs_setSlot rfl fun _ => rfl)
  discard h := listsAgree_of_listsAs h (listsAs_mapSlots fun _ _ => ⟨rfl, rfl⟩)
  counted h := listsAgree_of_listsAs h (listsAs_counted _)
  cold _ := listsAgree_coldStart _ _
  enter h hq _ _ hup hm := listsAgree_enter _ h hq (off_of_lost h hup)
    (hm.resolve_right not_strayWake_listsAgree)
  release h hq _ hgood := listsAgree_enter _ h (by decide) (fun hlost => by rw [hlost] at hgood; cases hgood)
    (.inl (listed_of_head h hq))
  enqueue h _ _ hrail hlisted := listsAgree_enqueue _ h hrail (hlisted.imp_right
    (Or.imp_right fun ⟨_, hbefore, hs, hsame⟩ => hsame.trans (shedList_of_settling hbefore hs)))
  shed h hlife hlisted hact := by
    have hbrings : ShedAction.bringsTo _ _ := hact.imp (And.imp_right .inr) (And.imp_right .inl)
    refine ⟨startQueueAgrees_enter _ _ _ (startQueueAgrees_of_frame h.1 rfl fun _ => rfl) ?_,
      shedListAgrees_shed _ _ h.2 h.1 hlife hlisted hbrings⟩
    rcases hact with ⟨-, rfl⟩ | ⟨-, rfl⟩ <;> decide
  override h := listsAgree_enter _ (listsAgree_of_listsAs h (listsAs_setSlot rfl fun _ => rfl))
    (by decide) (fun _ => rfl) (.inr (.inr (.inl rfl)))
  occur h := listsAgree_of_listsAs h (listsAs_occur _ _ _)
  clearEntry h := listsAgree_of_listsAs h (listsAs_clearEntry _ _)
  reconfigure h := listsAgree_of_listsAs h (listsAs_reconfigure _ _ _)
  channel h _ _ _ _ := listsAgree_of_listsAs h
    (listsAs_of_slots (by simp) (by simp) fun _ hw => .inl (by simpa using hw))
  compose h := listsAgree_of_listsAs h
    (listsAs_of_slots (by simp) (by simp) fun _ hw => .inl (by simpa using hw))
  endNotice h _ := listsAgree_of_listsAs h (listsAs_of_slots (endNotice_staging _ _ _)
    (endNotice_slots _ _ _) fun _ hw => .inl (by rwa [endNotice_wakes] at hw))
  restart h := listsAgree_of_listsAs h (listsAs_of_slots rfl rfl fun _ hw => .inl hw)

/-- Settles O10: the start queue by itself, and with it the shed list, the lost rail and the waiting wake requests,
are closed under every primitive change of State, and so under every step. -/
theorem startQueueHoldsTheQueuedSlots : Obligations.StartQueueHoldsTheQueuedSlots :=
  ⟨fun _ _ hs ht => closed_startQueueAgrees.step id hs ht,
    fun _ _ hq hs ht => (closed_listsAgree.step id ⟨hq, hs⟩ ht).2⟩

end Sys2Proof.Machine
end

section
/-! PROOF. The invariants at reset (O7), the start queue's timers with STAGE_CONFIG (R116, R117, R130; O56), and
SHED_CONFIG (R131; O59). -/

namespace Sys2Proof.Machine

/-! ### Reset -/

/-- The part at reset is what a cold start makes of it. -/
theorem reset_eq_coldStart : State.reset = coldStart .power State.reset := by decide

theorem queueBounded_coldStart (reason : RestartReason) (s : State) :
    (coldStart reason s).queueBounded := Nat.zero_le _

theorem onePowerUp_coldStart (reason : RestartReason) (s : State) :
    (coldStart reason s).onePowerUp :=
  onePowerUp_of_down fun i => .inl (coldStart_slot reason s i).1

theorem overrideHolds_coldStart (reason : RestartReason) (s : State) :
    (coldStart reason s).overrideHolds := fun i _ => (coldStart_slot reason s i).1

/-- Settles O7: every cold start meets the invariants, and the part at reset is a cold start. -/
theorem resetMeetsTheInvariants : Obligations.ResetMeetsTheInvariants := by
  unfold Obligations.ResetMeetsTheInvariants
  rw [reset_eq_coldStart]
  obtain ⟨hqueue, hshed⟩ := listsAgree_coldStart .power State.reset
  exact ⟨queueBounded_coldStart _ _, onePowerUp_coldStart _ _, hqueue, holdsAgree_coldStart _ _,
    overrideHolds_coldStart _ _, placesAgree_coldStart _ _, hshed⟩

/-! ### The start queue's timers (R116, R117) and STAGE_CONFIG (R130) -/

theorem headOffTimeElapses_of_empty {s : State} (h : s.staging.startQueue = []) :
    headOffTimeElapses s = s := by simp only [headOffTimeElapses, h]

theorem headOffTimeElapses_of_head {s : State} {p : QueuePlace} {rest : List QueuePlace}
    (h : s.staging.startQueue = p :: rest) : headOffTimeElapses s = s.setSlot p.slot { s.slot p.slot with
      offTimer := if (s.slot p.slot).offTimer < (s.slot p.slot).config.offTime * 100
        then (s.slot p.slot).config.offTime * 100 else (s.slot p.slot).offTimer } := by
  have hmax : ∀ m n : Nat, max m n = if m < n then n else m := fun m n => by
    split <;> omega
  simp only [headOffTimeElapses, h, hmax]

/-- Settles O56: the two rows by what they do to the timers, STAGE_CONFIG by what it writes. -/
theorem stagingTimersAndSettings : Obligations.StagingTimersAndSettings := by
  refine ⟨fun s hrun => ⟨run_of_running hrun, fun h => ?_, fun p rest h => ?_⟩,
    fun s seq gap settle h => exec_answer (c := .stageConfig) h rfl rfl rfl⟩
  · exact (run_of_running hrun).trans (by rw [headOffTimeElapses_of_empty h])
  · exact (run_of_running hrun).trans (by rw [headOffTimeElapses_of_head h])

/-! ### SHED_CONFIG (R131) -/

/-- The three settings as SHED_CONFIG writes them. -/
def State.shedSettings (s : State) (enable : Bool) (interval cool : Byte) : State :=
  s.setStaging { s.staging with
    shedEnable := enable, escalationInterval := interval.toNat, coolTime := cool.toNat }

theorem rangeField_of_ne_zero {b : Byte} (h : b ≠ 0) : rangeField 1 255 b.toNat = some b.toNat :=
  rangeField_of_range (by bv_omega)

section Accepted

variable {interval cool : Byte} (hinterval : interval ≠ 0) (hcool : cool ≠ 0) (s : State)
include hinterval hcool

theorem shedConfig_of_off : shedConfig [0, interval, cool] s = answer .done
    ((s.shedSettings false interval cool).setStaging
      { (s.shedSettings false interval cool).staging with escalationTimer := none }) := by
  simp only [shedConfig, boolField, rangeField_of_ne_zero hinterval, rangeField_of_ne_zero hcool,
    if_true]
  rfl

theorem shedConfig_of_on : shedConfig [1, interval, cool] s = answer .done
    (if s.board.therm.level = true ∧ s.staging.rail = .good ∧ s.staging.escalationTimer = none
      then escalate (s.shedSettings true interval cool) else s.shedSettings true interval cool) := by
  have hbegins : (s.hot && s.railGood && s.staging.escalationTimer.isNone) = true ↔
      s.board.therm.level = true ∧ s.staging.rail = .good ∧ s.staging.escalationTimer = none := by
    simp only [State.hot, State.railGood, Bool.and_eq_true, beq_iff_eq, Option.isNone_iff_eq_none,
      and_assoc]
  have hone : boolField 1 = some true := rfl
  have hconfig : shedConfig [1, interval, cool] s =
      if (s.hot && s.railGood && s.staging.escalationTimer.isNone) = true
        then answer .done (escalate (s.shedSettings true interval cool))
        else answer .done (s.shedSettings true interval cool) := by
    simp only [shedConfig, hone, rangeField_of_ne_zero hinterval, rangeField_of_ne_zero hcool]
    rfl
  rw [hconfig, apply_ite (answer .done)]
  exact if_congr hbegins rfl rfl

end Accepted

/-- A request with any value out of range is refused and changes nothing. -/
theorem shedConfig_of_outside {enable interval cool : Byte} (s : State)
    (h : 1 < enable.toNat ∨ interval = 0 ∨ cool = 0) :
    shedConfig [enable, interval, cool] s = answer .badValue s := by
  have hzero : rangeField 1 255 (0 : Byte).toNat = none := rfl
  unfold shedConfig
  dsimp only
  split
  · rename_i henable hinterval hcool
    exfalso
    rcases h with h | rfl | rfl
    · rw [boolField_of_outside h] at henable; cases henable
    · rw [hzero] at hinterval; cases hinterval
    · rw [hzero] at hcool; cases hcool
  · rfl

/-- Settles O59: off, on, and a value out of range. -/
theorem shedConfigReplacesTheSettings : Obligations.ShedConfigReplacesTheSettings := by
  intro s seq enable interval cool h set
  have request : ∀ {b code : Byte} {t : State} {r : Result},
      shedConfig [b, interval, cool] s = answer r t → r.code = code →
        exec (.shedConfig seq [b, interval, cool]) s = .next (t.answered seq [code]) :=
    fun hd hr => exec_answer (c := .shedConfig) h rfl hd hr
  exact ⟨fun hinterval hcool => ⟨request (shedConfig_of_off hinterval hcool s) rfl,
    request (shedConfig_of_on hinterval hcool s) rfl⟩,
    fun houtside => request (shedConfig_of_outside s houtside) rfl⟩

end Sys2Proof.Machine
end

section
/-! PROOF. Escalation (R123, R125): what the shedding of one slot leaves, part by part of State, what that of all
slots of a level leaves together, and which level it is. -/

namespace Sys2Proof.Machine

/-! ### The record of a slot that is shed (R123) -/

/-- The record of a slot whose stop begins: it stands in STOPPING, and in OFF where RDY is asserted (R66). -/
def Slot.stopped (x : Slot) (cause : Cause) (ready : Bool) (now : Word) : Slot :=
  let stopping := x.moved .stopping cause now
    (some { kind := .stop, left := x.config.stopLimit * 1000 })
  if ready then stopping.moved .off cause now none else stopping

/-- The record of a slot that is shed by its action (R123). -/
def Slot.shed (x : Slot) (ready : Bool) (now : Word) : Slot :=
  match x.config.shedAction with
  | .sleep => x.slept .shed ready now
  | .stop => x.stopped .shed ready now

theorem stopped_unheld (x : Slot) (cause : Cause) (ready : Bool) (now : Word) :
    (x.stopped cause ready now).unheld = x.unheld.stopped cause ready now := by cases ready <;> rfl

theorem shed_of_sleep {x : Slot} (ready : Bool) (now : Word) (h : x.config.shedAction = .sleep) :
    x.shed ready now = x.slept .shed ready now := by rw [Slot.shed, h]

theorem shed_of_stop {x : Slot} (ready : Bool) (now : Word) (h : x.config.shedAction = .stop) :
    x.shed ready now = x.stopped .shed ready now := by rw [Slot.shed, h]

theorem shed_unheld (x : Slot) (ready : Bool) (now : Word) :
    (x.shed ready now).unheld = x.unheld.shed ready now := by
  cases h : x.config.shedAction
  · rw [shed_of_sleep _ _ h, shed_of_sleep (x := x.unheld) _ _ h, slept_unheld]
  · rw [shed_of_stop _ _ h, shed_of_stop (x := x.unheld) _ _ h, stopped_unheld]

theorem shed_state (x : Slot) (ready : Bool) (now : Word) : (x.shed ready now).state =
    match x.config.shedAction, ready with
    | .sleep, false => .entering
    | .sleep, true => .asleep
    | .stop, false => .stopping
    | .stop, true => .off := by
  cases h : x.config.shedAction
  · rw [shed_of_sleep _ _ h]; cases ready <;> rfl
  · rw [shed_of_stop _ _ h]; cases ready <;> rfl

theorem shed_fields (x : Slot) (ready : Bool) (now : Word) :
    (x.shed ready now).last = some { cause := .shed, time := now } ∧
      (x.shed ready now).config = x.config ∧ (x.shed ready now).hostHolds = x.hostHolds := by
  cases h : x.config.shedAction
  · rw [shed_of_sleep _ _ h]; cases ready <;> exact ⟨rfl, rfl, rfl⟩
  · rw [shed_of_stop _ _ h]; cases ready <;> exact ⟨rfl, rfl, rfl⟩

/-! ### A stop and a sleep that begin (R66, R86) -/

theorem beginStopping_unheld (i : SlotId) (cause : Cause) (s : State) :
    ((beginStopping i cause s).slot i).unheld =
      ((s.slot i).stopped cause (s.lineSet i).rdy.level s.uptime).unheld := by
  rw [beginStopping_eq, Slot.stopped]
  dsimp only
  split
  · rw [enter_unheld, moved_unheld, enter_unheld, uptime_of_outside (enter_outside ..)]; rfl
  · rw [enter_unheld]

theorem beginStopping_unheld_ne {i j : SlotId} (cause : Cause) (s : State) (hj : j ≠ i) :
    ((beginStopping i cause s).slot j).unheld = (s.slot j).unheld := by
  rw [beginStopping_eq]
  dsimp only
  split
  · rw [enter_unheld_ne _ _ _ _ hj, enter_unheld_ne _ _ _ _ hj]
  · rw [enter_unheld_ne _ _ _ _ hj]

theorem beginStopping_entry_ne {i : SlotId} {e : EntryId} (cause : Cause) (s : State)
    (he : e ≠ transitionEntry i) : (beginStopping i cause s).entry e = s.entry e := by
  rw [beginStopping_eq]
  dsimp only
  split
  · rw [enter_entry_ne _ _ _ _ he, enter_entry_ne _ _ _ _ he]
  · rw [enter_entry_ne _ _ _ _ he]

theorem beginEntering_entry_ne {i : SlotId} {e : EntryId} (cause : Cause) (s : State)
    (he : e ≠ transitionEntry i) : (beginEntering i cause s).entry e = s.entry e := by
  rw [beginEntering_eq]
  dsimp only
  split
  · rw [enter_entry_ne _ _ _ _ he, enter_entry_ne _ _ _ _ he]
  · rw [enter_entry_ne _ _ _ _ he]

/-- A slot in RUNNING or SLEEP_WAIT, from where it may be shed (R125). -/
abbrev State.awake (s : State) (i : SlotId) : Prop :=
  s.lifeOf i = .running ∨ s.lifeOf i = .sleepWait

/-- The Staging Unit is told nothing by a slot that goes to sleep. -/
theorem beginEntering_staging_of_awake {i : SlotId} {s : State} (cause : Cause) (h : s.awake i) :
    (beginEntering i cause s).staging = s.staging := by
  have hentering : s.staging.told i (s.lifeOf i) .entering cause = s.staging := by
    rw [told_eq]
    rcases h with h | h <;> rw [h] <;> rfl
  have hasleep : s.staging.told i .entering .asleep cause = s.staging := by
    rw [told_eq]; rfl
  rw [beginEntering_eq]
  dsimp only
  split
  · rw [enter_staging, enter_lifeOf, enter_staging, hentering, hasleep]
  · rw [enter_staging, hentering]

/-- A slot that is shed by STOP stays in the shed list; where it goes to OFF at once, a restore that watches it has
settled (R124, R129). -/
theorem beginStopping_staging_of_shed {i : SlotId} {s : State} (h : s.awake i) :
    (beginStopping i .shed s).staging = { s.staging with
      restore := if s.staging.restore = .watching i ∧ (s.lineSet i).rdy.level = true
        then .between else s.staging.restore } := by
  have hstopping : s.staging.told i (s.lifeOf i) .stopping .shed = s.staging := by
    rw [told_eq]
    rcases h with h | h <;> rw [h] <;> rfl
  have hoff : s.staging.told i .stopping .off .shed = { s.staging with
      restore := if s.staging.restore = .watching i then .between else s.staging.restore } := by
    rw [told_eq]
    simp [leavesShedList, settlesRestore, LifeState.inPowerUp]
  rw [beginStopping_eq]
  dsimp only
  by_cases hready : (s.lineSet i).rdy.level = true
  · rw [if_pos hready, enter_staging, enter_lifeOf, enter_staging, hstopping, hoff]
    simp only [hready, and_true]
  · rw [if_neg hready, enter_staging, hstopping, if_neg fun hboth => hready hboth.2]

/-! ### One slot -/

theorem sleep_or_stop (a : ShedAction) : a = .sleep ∨ a = .stop := by cases a <;> simp

/-- The slot's place in the shed list when it is shed (R123). -/
def State.shedPlace (s : State) (i : SlotId) : ShedPlace :=
  { slot := i, action := (s.slot i).config.shedAction }

/-- The slot goes to OFF at once when it is shed. -/
abbrev State.shedsOff (s : State) (i : SlotId) : Prop :=
  (s.slot i).config.shedAction = .stop ∧ (s.lineSet i).rdy.level = true

/-- The state with a slot appended to the shed list. -/
def State.markedShed (s : State) (i : SlotId) : State :=
  s.setStaging { s.staging with shedList := s.staging.shedList ++ [s.shedPlace i] }

theorem shedSlot_eq (s : State) (i : SlotId) : shedSlot s i =
    match (s.slot i).config.shedAction with
    | .sleep => beginEntering i .shed (s.markedShed i)
    | .stop => beginStopping i .shed (s.markedShed i) := rfl

theorem shedSlot_of_sleep {s : State} {i : SlotId} (h : (s.slot i).config.shedAction = .sleep) :
    shedSlot s i = beginEntering i .shed (s.markedShed i) := by simp only [shedSlot_eq, h]

theorem shedSlot_of_stop {s : State} {i : SlotId} (h : (s.slot i).config.shedAction = .stop) :
    shedSlot s i = beginStopping i .shed (s.markedShed i) := by simp only [shedSlot_eq, h]

theorem shedSlot_unheld_self (s : State) (i : SlotId) : ((shedSlot s i).slot i).unheld =
    ((s.slot i).shed (s.lineSet i).rdy.level s.uptime).unheld := by
  cases h : (s.slot i).config.shedAction
  · rw [shedSlot_of_sleep h, beginEntering_unheld, shed_of_sleep _ _ h]; rfl
  · rw [shedSlot_of_stop h, beginStopping_unheld, shed_of_stop _ _ h]; rfl

theorem shedSlot_unheld_ne {s : State} {i j : SlotId} (h : i ≠ j) :
    ((shedSlot s j).slot i).unheld = (s.slot i).unheld := by
  cases ha : (s.slot j).config.shedAction
  · rw [shedSlot_of_sleep ha, beginEntering_unheld_ne _ _ h]; rfl
  · rw [shedSlot_of_stop ha, beginStopping_unheld_ne _ _ h]; rfl

theorem shedSlot_entry_ne {s : State} {j : SlotId} {e : EntryId} (h : e ≠ transitionEntry j) :
    (shedSlot s j).entry e = s.entry e := by
  cases ha : (s.slot j).config.shedAction
  · rw [shedSlot_of_sleep ha, beginEntering_entry_ne _ _ h]; rfl
  · rw [shedSlot_of_stop ha, beginStopping_entry_ne _ _ h]; rfl

theorem shedSlot_staging {s : State} {i : SlotId} (h : s.awake i) : (shedSlot s i).staging =
    { s.staging with
      shedList := s.staging.shedList ++ [s.shedPlace i]
      restore := if s.staging.restore = .watching i ∧ s.shedsOff i then .between
        else s.staging.restore } := by
  have hmarked : (s.markedShed i).awake i := h
  rcases sleep_or_stop (s.slot i).config.shedAction with ha | ha
  · have hstays : ¬ s.shedsOff i := fun hoff => by rw [State.shedsOff, ha] at hoff; cases hoff.1
    rw [shedSlot_of_sleep ha, beginEntering_staging_of_awake _ hmarked, if_neg fun hboth => hstays hboth.2]
    rfl
  · rw [shedSlot_of_stop ha, beginStopping_staging_of_shed hmarked]
    simp only [State.shedsOff, ha, true_and]
    rfl

/-- What a shed leaves of another slot's readiness to be shed. -/
theorem shedSlot_others {s : State} {i j : SlotId} (h : i ≠ j) :
    ((shedSlot s j).awake i ↔ s.awake i) ∧ (shedSlot s j).shedPlace i = s.shedPlace i ∧
      ((shedSlot s j).shedsOff i ↔ s.shedsOff i) := by
  have hslot := Slot.eq_of_unheld (shedSlot_unheld_ne (s := s) h)
  have hlines := lineSet_of_outside (shedSlot_outside s j) i
  rw [State.awake, State.lifeOf, State.shedPlace, State.shedsOff, hslot, hlines]
  exact ⟨Iff.rfl, rfl, Iff.rfl⟩

/-! ### All slots of a level -/

/-- A step that is taken for each slot of a list without repetition acts on each of them once: what is read of a
slot is what its own step makes of it. -/
theorem foldl_of_nodup {α : Type} {step : State → SlotId → State} {read make : State → SlotId → α}
    (acting : ∀ s i, read (step s i) i = make s i)
    (other : ∀ {s i j}, i ≠ j → read (step s j) i = read s i ∧ make (step s j) i = make s i)
    {l : List SlotId} (hl : l.Nodup) (s : State) (i : SlotId) :
    read (l.foldl step s) i = if i ∈ l then make s i else read s i := by
  induction l generalizing s with
  | nil => rfl
  | cons j l ih =>
    obtain ⟨hj, hl⟩ := List.nodup_cons.mp hl
    rw [List.foldl_cons, ih hl]
    by_cases hij : i = j
    · subst hij
      rw [if_neg hj, acting, if_pos List.mem_cons_self]
    · obtain ⟨hread, hmake⟩ := other (s := s) hij
      rw [hread, hmake]
      simp only [List.mem_cons, hij, false_or]

theorem shedSlot_foldl_unheld {l : List SlotId} (hl : l.Nodup) (s : State) (i : SlotId) :
    ((l.foldl shedSlot s).slot i).unheld =
      if i ∈ l then ((s.slot i).shed (s.lineSet i).rdy.level s.uptime).unheld
      else (s.slot i).unheld :=
  foldl_of_nodup (read := fun s i => (s.slot i).unheld)
    (make := fun s i => ((s.slot i).shed (s.lineSet i).rdy.level s.uptime).unheld)
    shedSlot_unheld_self (fun {s _ j} hij => ⟨shedSlot_unheld_ne hij, by
      rw [shed_unheld, shed_unheld, shedSlot_unheld_ne hij, lineSet_of_outside (shedSlot_outside s j),
        uptime_of_outside (shedSlot_outside s j)]⟩) hl s i

theorem shedSlot_foldl_entry {l : List SlotId} (s : State) {e : EntryId}
    (h : ∀ i ∈ l, e ≠ transitionEntry i) : (l.foldl shedSlot s).entry e = s.entry e := by
  induction l generalizing s with
  | nil => rfl
  | cons j l ih =>
    rw [List.foldl_cons, ih _ fun i hi => h i (List.mem_cons_of_mem j hi),
      shedSlot_entry_ne (h j List.mem_cons_self)]

/-- The slots join the shed list in the order of the list, and a restore settles where the slot that it watches goes
to OFF at once (R123, R129). -/
theorem shedSlot_foldl_staging {l : List SlotId} (hl : l.Nodup) {s : State}
    (hawake : ∀ i ∈ l, s.awake i) : (l.foldl shedSlot s).staging = { s.staging with
      shedList := s.staging.shedList ++ l.map s.shedPlace
      restore := if ∃ i ∈ l, s.staging.restore = .watching i ∧ s.shedsOff i then .between
        else s.staging.restore } := by
  induction l generalizing s with
  | nil => simp
  | cons j l ih =>
    obtain ⟨hj, hl⟩ := List.nodup_cons.mp hl
    have hothers : ∀ i ∈ l, ((shedSlot s j).awake i ↔ s.awake i) ∧
        (shedSlot s j).shedPlace i = s.shedPlace i ∧ ((shedSlot s j).shedsOff i ↔ s.shedsOff i) :=
      fun i hi => shedSlot_others fun e => hj (e ▸ hi)
    have hplaces : l.map (shedSlot s j).shedPlace = l.map s.shedPlace :=
      List.map_congr_left fun i hi => (hothers i hi).2.1
    have hoff : ∀ r : Restore, (∃ i ∈ l, r = .watching i ∧ (shedSlot s j).shedsOff i) ↔
        ∃ i ∈ l, r = .watching i ∧ s.shedsOff i := fun r =>
      exists_congr fun i => and_congr_right fun hi => and_congr_right fun _ => (hothers i hi).2.2
    rw [List.foldl_cons, ih hl fun i hi => (hothers i hi).1.mpr (hawake i (List.mem_cons_of_mem j hi)),
      hplaces]
    simp only [hoff]
    rw [shedSlot_staging (hawake j List.mem_cons_self)]
    dsimp only
    rw [List.append_assoc, List.map_cons, List.singleton_append]
    by_cases hsettles : s.staging.restore = .watching j ∧ s.shedsOff j
    · have hexists : ∃ i ∈ j :: l, s.staging.restore = .watching i ∧ s.shedsOff i :=
        ⟨j, List.mem_cons_self, hsettles⟩
      simp only [if_pos hexists, if_pos hsettles, ite_self]
    · simp only [hsettles, if_false, List.mem_cons, exists_eq_or_imp, false_or]

/-! ### The level (R125) -/

theorem eligible_iff (s : State) (level : Nat) (i : SlotId) : s.eligible level i = true ↔
    s.awake i ∧ 1 ≤ (s.slot i).config.shedRank ∧ (s.slot i).config.shedRank ≤ level ∧
      i ∉ s.staging.shedList.map ShedPlace.slot := by
  simp only [State.eligible, Bool.and_eq_true, Bool.or_eq_true, beq_iff_eq, decide_eq_true_eq,
    Bool.not_eq_true', ← Bool.not_eq_true, listed_iff, and_assoc]

theorem nextLevel_eq_none_iff (s : State) : s.nextLevel = none ↔ ∀ level i,
    s.staging.shedLevel < level → level ≤ 6 → ¬ s.eligible level i = true := by
  simp only [State.nextLevel, List.find?_range'_eq_none, Bool.not_eq_true', List.any_eq_false,
    List.mem_finRange, true_imp_iff]
  exact ⟨fun h level i hlow hhigh => h level hlow (by omega) i,
    fun h level hlow hhigh i => h level i hlow (by omega)⟩

theorem nextLevel_of_smallest {s : State} {level : Nat} (hlow : s.staging.shedLevel < level)
    (hhigh : level ≤ 6) (hfinds : ∃ i, s.eligible level i = true)
    (hsmallest : ∀ lower i, s.staging.shedLevel < lower → lower < level →
      ¬ s.eligible lower i = true) : s.nextLevel = some level := by
  obtain ⟨i, hi⟩ := hfinds
  refine List.find?_range'_eq_some.mpr ⟨List.any_eq_true.mpr ⟨i, List.mem_finRange i, hi⟩,
    List.mem_range'_1.mpr (by omega), fun lower hl hu => ?_⟩
  rw [Bool.not_eq_true', List.any_eq_false]
  exact fun j _ => hsmallest lower j hl hu

/-! ### The escalation step (R125) -/

theorem escalate_of_none {s : State} (h : s.nextLevel = none) :
    escalate s = s.setStaging { s.staging with escalationTimer := none } := by
  simp only [escalate, h]

/-- The slots that a level finds, ascending. -/
def State.found (s : State) (level : Nat) : List SlotId :=
  (List.finRange 6).filter (s.eligible level)

theorem found_nodup (s : State) (level : Nat) : (s.found level).Nodup :=
  (List.nodup_finRange 6).filter _

theorem mem_found {s : State} {level : Nat} {i : SlotId} :
    i ∈ s.found level ↔ s.eligible level i = true := by
  simp only [State.found, List.mem_filter, List.mem_finRange, true_and]

theorem awake_of_found {s : State} {level : Nat} {i : SlotId} (h : i ∈ s.found level) : s.awake i := by
  obtain ⟨hawake, -⟩ := (eligible_iff s level i).mp (mem_found.mp h)
  exact hawake

/-- The state in which all slots that a level finds have been shed. -/
def State.shedAt (s : State) (level : Nat) : State :=
  (s.found level).foldl shedSlot (s.setStaging { s.staging with shedLevel := level })

theorem shedAt_staging (s : State) (level : Nat) : (s.shedAt level).staging = { s.staging with
    shedLevel := level
    shedList := s.staging.shedList ++ (s.found level).map s.shedPlace
    restore := if ∃ i ∈ s.found level, s.staging.restore = .watching i ∧ s.shedsOff i then .between
      else s.staging.restore } := by
  rw [State.shedAt, shedSlot_foldl_staging (s := s.setStaging { s.staging with shedLevel := level })
    (found_nodup s level) fun i hi => awake_of_found hi]
  rfl

theorem escalate_of_some {s : State} {level : Nat} (h : s.nextLevel = some level) :
    escalate s = (s.shedAt level).setStaging { (s.shedAt level).staging with
      escalationTimer := some (s.staging.escalationInterval * 1000) } := by
  have hinterval : (s.shedAt level).staging.escalationInterval = s.staging.escalationInterval := by
    rw [shedAt_staging]
  rw [← hinterval]
  simp only [escalate, h]
  rfl

theorem escalate_staging {s : State} {level : Nat} (h : s.nextLevel = some level) :
    (escalate s).staging = { (s.shedAt level).staging with
      escalationTimer := some (s.staging.escalationInterval * 1000) } := by
  rw [escalate_of_some h, State.setStaging_staging]

theorem escalate_unheld {s : State} {level : Nat} (h : s.nextLevel = some level) (i : SlotId) :
    ((escalate s).slot i).unheld = if s.eligible level i = true
      then ((s.slot i).shed (s.lineSet i).rdy.level s.uptime).unheld else (s.slot i).unheld := by
  rw [escalate_of_some h, State.slot_setStaging, State.shedAt,
    shedSlot_foldl_unheld (found_nodup s level)]
  simp only [mem_found]
  rfl

/-- A slot that the level finds has the record of a shed slot. -/
theorem escalate_slot_of_eligible {s : State} {level : Nat} {i : SlotId}
    (h : s.nextLevel = some level) (hi : s.eligible level i = true) : (escalate s).slot i =
      { (s.slot i).shed (s.lineSet i).rdy.level s.uptime with
        holds := ((escalate s).slot i).holds } :=
  Slot.eq_of_unheld ((escalate_unheld h i).trans (if_pos hi))

/-- Any other slot keeps its record but for the hold count. -/
theorem escalate_slot_of_other {s : State} {level : Nat} {i : SlotId} (h : s.nextLevel = some level)
    (hi : ¬ s.eligible level i = true) :
    (escalate s).slot i = { s.slot i with holds := ((escalate s).slot i).holds } :=
  Slot.eq_of_unheld ((escalate_unheld h i).trans (if_neg hi))

theorem escalate_entry {s : State} {level : Nat} (h : s.nextLevel = some level) {e : EntryId}
    (he : ∀ i, s.eligible level i = true → e ≠ transitionEntry i) :
    (escalate s).entry e = s.entry e := by
  rw [escalate_of_some h, State.entry_setStaging, State.shedAt,
    shedSlot_foldl_entry _ fun i hi => he i (mem_found.mp hi)]
  rfl

end Sys2Proof.Machine
end

section
/-! PROOF. The restore of the last listed slot (R129), and the rows of THERM, of escalation and of cooling (R122,
R123, R125 to R128): O58. -/

namespace Sys2Proof.Machine

/-! ### A waking that begins (R89) -/

/-- A waking ends at once where PGOOD is asserted and RDY released (R89). -/
abbrev State.wakesAtOnce (s : State) (i : SlotId) : Prop :=
  (s.lineSet i).pgood.level = true ∧ ¬ (s.lineSet i).rdy.level = true

/-- The slot in WAKING before the test of RDY, in its second step where PGOOD is asserted (R89). -/
def State.wakingSlot (s : State) (i : SlotId) (cause : Cause) : State :=
  let waking := enter i .waking cause
    (some { kind := .powerUp, left := (s.slot i).config.powerUpLimit * 10 }) s
  waking.setSlot i { waking.slot i with
    step := if (s.lineSet i).pgood.level
      then some { kind := .wake, left := (s.slot i).config.wakeLimit * 100 }
      else (waking.slot i).step }

theorem beginWaking_eq_wakingSlot (i : SlotId) (cause : Cause) (s : State) : beginWaking i cause s =
    if s.wakesAtOnce i then enter i .running cause none (s.wakingSlot i cause)
    else s.wakingSlot i cause := by
  rw [beginWaking_eq]
  dsimp only [State.wakingSlot]
  by_cases hpgood : (s.lineSet i).pgood.level = true
  · by_cases hrdy : (s.lineSet i).rdy.level = true <;> simp [State.wakesAtOnce, hpgood, hrdy]
  · rw [if_neg hpgood, if_neg fun hboth => hpgood hboth.1, if_neg hpgood]
    exact (State.setSlot_self _ i).symm

section Waking

variable (i : SlotId) (cause : Cause) (s : State)

theorem wakingSlot_lifeOf : (s.wakingSlot i cause).lifeOf i = .waking :=
  (lifeOf_setSlot_of_state (by rfl) i).trans (enter_lifeOf ..)

theorem wakingSlot_last : ((s.wakingSlot i cause).slot i).last =
    some { cause := cause, time := s.uptime } := by
  rw [State.wakingSlot, State.slot_setSlot, enter_last]

theorem wakingSlot_unheld_ne {j : SlotId} (hj : j ≠ i) :
    ((s.wakingSlot i cause).slot j).unheld = (s.slot j).unheld := by
  rw [State.wakingSlot, State.slot_setSlot_ne _ _ hj, enter_unheld_ne _ _ _ _ hj]

theorem wakingSlot_entry_ne {e : EntryId} (he : e ≠ transitionEntry i) :
    (s.wakingSlot i cause).entry e = s.entry e := by
  rw [State.wakingSlot, State.entry_setSlot, enter_entry_ne _ _ _ _ he]

theorem wakingSlot_outside : (s.wakingSlot i cause).outside = s.outside := by
  rw [State.wakingSlot, setSlot_outside, enter_outside]

/-- The Staging Unit is told nothing by a slot that goes from ASLEEP to WAKING. -/
theorem wakingSlot_staging (h : s.lifeOf i = .asleep) :
    (s.wakingSlot i cause).staging = s.staging := by
  rw [State.wakingSlot, State.setSlot_staging, enter_staging, h, told_eq]
  rfl

theorem beginWaking_lifeOf : (beginWaking i cause s).lifeOf i =
    if s.wakesAtOnce i then .running else .waking := by
  rw [beginWaking_eq_wakingSlot]
  split
  · rw [enter_lifeOf]
  · rw [wakingSlot_lifeOf]

theorem beginWaking_last : ((beginWaking i cause s).slot i).last =
    some { cause := cause, time := s.uptime } := by
  rw [beginWaking_eq_wakingSlot]
  split
  · rw [enter_last, uptime_of_outside (wakingSlot_outside ..)]
  · rw [wakingSlot_last]

theorem beginWaking_unheld_ne {j : SlotId} (hj : j ≠ i) :
    ((beginWaking i cause s).slot j).unheld = (s.slot j).unheld := by
  rw [beginWaking_eq_wakingSlot]
  split
  · rw [enter_unheld_ne _ _ _ _ hj, wakingSlot_unheld_ne i cause s hj]
  · rw [wakingSlot_unheld_ne i cause s hj]

theorem beginWaking_entry_ne {e : EntryId} (he : e ≠ transitionEntry i) :
    (beginWaking i cause s).entry e = s.entry e := by
  rw [beginWaking_eq_wakingSlot]
  split
  · rw [enter_entry_ne _ _ _ _ he, wakingSlot_entry_ne i cause s he]
  · rw [wakingSlot_entry_ne i cause s he]

/-- A slot that is not listed and wakes from ASLEEP leaves the Staging Unit as it is; where it comes to RUNNING at
once, a restore that watches it has settled (R129). -/
theorem beginWaking_staging (h : s.lifeOf i = .asleep)
    (hlisted : i ∉ s.staging.shedList.map ShedPlace.slot) :
    (beginWaking i cause s).staging = { s.staging with
      restore := if s.wakesAtOnce i ∧ s.staging.restore = .watching i then .between
        else s.staging.restore } := by
  have hrunning : s.staging.told i .waking .running cause = { s.staging with
      restore := if s.staging.restore = .watching i then .between else s.staging.restore } := by
    rw [told_by_target]
    simp [hlisted]
  rw [beginWaking_eq_wakingSlot]
  by_cases hends : s.wakesAtOnce i
  · rw [if_pos hends, enter_staging, wakingSlot_lifeOf, wakingSlot_staging i cause s h, hrunning]
    simp only [and_iff_right hends]
  · rw [if_neg hends, wakingSlot_staging i cause s h, if_neg fun hboth => hends hboth.1]

end Waking

/-! ### The tail of the shed list (R124, R129) -/

/-- The shed list has come to `rest`: with a list that is empty the shed level is 0 and the restore has ended
(R124), else the restore mark is `next`. -/
def State.shortened (s : State) (rest : List ShedPlace) (next : Restore) : State :=
  s.setStaging { s.staging with
    shedList := rest
    shedLevel := if rest = [] then 0 else s.staging.shedLevel
    restore := if rest = [] then .clear else next }

section Tail

variable {s : State} {rest : List ShedPlace} {p : ShedPlace}

theorem filter_of_tail (hp : p.slot ∉ rest.map ShedPlace.slot) :
    ((rest ++ [p]).filter fun q => decide (q.slot ≠ p.slot)) = rest := by
  have hrest : (rest.filter fun q => decide (q.slot ≠ p.slot)) = rest := by
    refine List.filter_eq_self.mpr fun q hq => decide_eq_true fun heq => hp ?_
    rw [← heq]
    exact List.mem_map_of_mem hq
  rw [List.filter_append, hrest]
  simp


/-- The restore watches the slot that it takes, unless the list is empty (R129). -/
theorem watched_of_shortened (s : State) (rest : List ShedPlace) (i : SlotId) : (if (s.shortened rest .between).staging.restore = .between
      then (s.shortened rest .between).setStaging
        { (s.shortened rest .between).staging with restore := .watching i }
      else s.shortened rest .between) = s.shortened rest (.watching i) := by
  by_cases hrest : rest = []
  · simp [State.shortened, hrest]
  · simp [State.shortened, hrest, State.setStaging]

/-- The Staging Unit of the slot's waking: it has settled where it comes to RUNNING at once. -/
theorem beginWaking_shortened_staging (hp : p.slot ∉ rest.map ShedPlace.slot)
    (hs : s.lifeOf p.slot = .asleep) :
    (beginWaking p.slot .shedRestore (s.shortened rest (.watching p.slot))).staging =
      (s.shortened rest (if s.wakesAtOnce p.slot then .between else .watching p.slot)).staging := by
  rw [beginWaking_staging p.slot .shedRestore (s.shortened rest (.watching p.slot)) hs hp]
  by_cases hends : s.wakesAtOnce p.slot
  · rw [if_pos hends]
    by_cases hrest : rest = []
    · simp [State.shortened, hrest]
    · have hsettles : (s.shortened rest (.watching p.slot)).wakesAtOnce p.slot ∧
          (s.shortened rest (.watching p.slot)).staging.restore = .watching p.slot :=
        ⟨hends, if_neg hrest⟩
      rw [if_pos hsettles]
      simp [State.shortened, hrest]
  · rw [if_neg hends, if_neg fun hboth => hends hboth.1]

variable (hlist : s.staging.shedList = rest ++ [p]) (hp : p.slot ∉ rest.map ShedPlace.slot)
include hlist hp

/-- The slot at the tail leaves the shed list, under a restore that watches no slot. -/
theorem unlist_of_tail : unlist p.slot (s.setStaging { s.staging with restore := .between }) =
    s.shortened rest .between := by
  rw [unlist, State.setStaging_staging, unlisted_eq]
  dsimp only
  rw [hlist, filter_of_tail hp]
  simp only [List.map_append, List.map_cons, List.map_nil, List.mem_append, List.mem_singleton,
    or_true, true_and]
  rfl

/-- The slot at the tail is taken for restore as it stands: ASLEEP after SLEEP it wakes, OFF after STOP it is
queued by a claim, else it is passed over. -/
theorem restoreNext_of_tail : restoreNext s =
    match p.action, s.lifeOf p.slot with
    | .sleep, .asleep => wake p.slot .shedRestore (s.shortened rest (.watching p.slot))
    | .stop, .off => if s.autoClaimable p.slot
        then enqueue p.slot .shedRestore (s.shortened rest (.watching p.slot))
        else s.shortened rest .between
    | _, _ => s.shortened rest .between := by
  have hlast : s.staging.shedList.getLast? = some p := by rw [hlist, List.getLast?_concat]
  unfold restoreNext
  simp only [hlast]
  rw [unlist_of_tail hlist hp, watched_of_shortened]
  rfl

theorem restoreNext_of_asleep (ha : p.action = .sleep) (hs : s.lifeOf p.slot = .asleep) :
    restoreNext s = beginWaking p.slot .shedRestore (s.shortened rest (.watching p.slot)) := by
  rw [restoreNext_of_tail hlist hp, ha, hs]
  exact wake_of_asleep (by simp [State.heeds, WakeOrigin.ignoredWhenListed]) hs

theorem restoreNext_of_claim (ha : p.action = .stop) (hs : s.lifeOf p.slot = .off)
    (hc : s.autoClaimable p.slot = true) :
    restoreNext s = enqueue p.slot .shedRestore (s.shortened rest (.watching p.slot)) := by
  rw [restoreNext_of_tail hlist hp, ha, hs]
  exact if_pos hc

theorem restoreNext_of_passed (h : (p.action = .sleep ∧ s.lifeOf p.slot ≠ .asleep) ∨
    (p.action = .stop ∧ (s.lifeOf p.slot ≠ .off ∨ s.autoClaimable p.slot = false))) :
    restoreNext s = s.shortened rest .between := by
  rw [restoreNext_of_tail hlist hp]
  split
  case h_1 ha hs =>
    rcases h with ⟨-, hne⟩ | ⟨hstop, -⟩
    · exact absurd hs hne
    · rw [ha] at hstop; cases hstop
  case h_2 ha hs =>
    rcases h with ⟨hsleep, -⟩ | ⟨-, hne | hno⟩
    · rw [ha] at hsleep; cases hsleep
    · exact absurd hs hne
    · exact if_neg (by rw [hno]; exact Bool.false_ne_true)
  case h_3 => rfl

/-- The three things a restore does with the slot at the tail. -/
theorem restoreNext_cases :
    (s.lifeOf p.slot = .asleep ∧ restoreNext s =
      beginWaking p.slot .shedRestore (s.shortened rest (.watching p.slot))) ∨
    (s.lifeOf p.slot = .off ∧ restoreNext s =
      enqueue p.slot .shedRestore (s.shortened rest (.watching p.slot))) ∨
    restoreNext s = s.shortened rest .between := by
  rcases sleep_or_stop p.action with ha | ha
  · by_cases hs : s.lifeOf p.slot = .asleep
    · exact .inl ⟨hs, restoreNext_of_asleep hlist hp ha hs⟩
    · exact .inr (.inr (restoreNext_of_passed hlist hp (.inl ⟨ha, hs⟩)))
  · by_cases hs : s.lifeOf p.slot = .off
    · cases hc : s.autoClaimable p.slot
      · exact .inr (.inr (restoreNext_of_passed hlist hp (.inr ⟨ha, .inr hc⟩)))
      · exact .inr (.inl ⟨hs, restoreNext_of_claim hlist hp ha hs hc⟩)
    · exact .inr (.inr (restoreNext_of_passed hlist hp (.inr ⟨ha, .inl hs⟩)))

/-- A restore takes the tail of the shed list off it, and with the last one ends (R124, R129). -/
theorem restoreNext_staging : ∃ (next : Restore) (queue : List QueuePlace),
    (restoreNext s).staging =
      { (s.shortened rest next).staging with startQueue := queue } := by
  rcases restoreNext_cases hlist hp with ⟨hs, ht⟩ | ⟨hs, ht⟩ | ht
  · exact ⟨_, s.staging.startQueue, by rw [ht, beginWaking_shortened_staging hp hs]; rfl⟩
  · have hoff : (s.shortened rest (.watching p.slot)).lifeOf p.slot = .off := hs
    exact ⟨.watching p.slot, _, by rw [ht, enqueue_of_off _ hoff]; rfl⟩
  · exact ⟨.between, s.staging.startQueue, by rw [ht]; rfl⟩

theorem restoreNext_unheld_ne {i : SlotId} (hi : i ≠ p.slot) :
    ((restoreNext s).slot i).unheld = (s.slot i).unheld := by
  rcases restoreNext_cases hlist hp with ⟨-, ht⟩ | ⟨-, ht⟩ | ht
  · rw [ht, beginWaking_unheld_ne _ _ _ hi]; rfl
  · rw [ht]; exact enter_unheld_ne _ _ _ _ hi
  · rw [ht]; rfl

theorem restoreNext_entry_ne {e : EntryId} (he : e ≠ transitionEntry p.slot) :
    (restoreNext s).entry e = s.entry e := by
  rcases restoreNext_cases hlist hp with ⟨-, ht⟩ | ⟨-, ht⟩ | ht
  · rw [ht, beginWaking_entry_ne _ _ _ he]; rfl
  · rw [ht]; exact enter_entry_ne _ _ _ _ he
  · rw [ht]; rfl

/-- A restore that moves its slot does so with cause SHED_RESTORE (R129). -/
theorem restoreNext_last (h : (restoreNext s).lifeOf p.slot ≠ s.lifeOf p.slot) :
    ((restoreNext s).slot p.slot).last = some { cause := .shedRestore, time := s.uptime } := by
  rcases restoreNext_cases hlist hp with ⟨-, ht⟩ | ⟨-, ht⟩ | ht
  · rw [ht, beginWaking_last]; rfl
  · rw [ht]; exact enter_last ..
  · rw [ht] at h; exact absurd rfl h

section Taken

variable (ha : p.action = .sleep) (hs : s.lifeOf p.slot = .asleep)
include ha hs

theorem restoreNext_lifeOf_of_asleep : (restoreNext s).lifeOf p.slot =
    if s.wakesAtOnce p.slot then .running else .waking := by
  rw [restoreNext_of_asleep hlist hp ha hs, beginWaking_lifeOf]
  rfl

/-- A slot that stays in WAKING is watched, unless it was the last. -/
theorem restoreNext_restore_of_asleep (hlater : ¬ s.wakesAtOnce p.slot) (hrest : rest ≠ []) :
    (restoreNext s).staging.restore = .watching p.slot := by
  rw [restoreNext_of_asleep hlist hp ha hs, beginWaking_shortened_staging hp hs, if_neg hlater]
  exact if_neg hrest

end Taken

/-- A slot that is claimed is QUEUED at the tail of the start queue, and watched unless it was the last. -/
theorem restoreNext_claimed (ha : p.action = .stop) (hs : s.lifeOf p.slot = .off)
    (hc : s.autoClaimable p.slot = true) : (restoreNext s).lifeOf p.slot = .queued ∧
      (rest ≠ [] → (restoreNext s).staging.restore = .watching p.slot) ∧
      (restoreNext s).staging.startQueue =
        s.staging.startQueue ++ [{ slot := p.slot, origin := .shedRestore }] := by
  have hoff : (s.shortened rest (.watching p.slot)).lifeOf p.slot = .off := hs
  rw [restoreNext_of_claim hlist hp ha hs hc]
  refine ⟨enter_lifeOf .., fun hrest => ?_, ?_⟩ <;> rw [enqueue_of_off _ hoff]
  · exact if_neg hrest
  · rfl

end Tail

theorem restoreNext_of_empty {s : State} (h : s.staging.shedList = []) :
    restoreNext s = s.setStaging { s.staging with restore := .clear } := by
  simp only [restoreNext, h, List.getLast?_nil]

/-- What an automatic power-up asks (R60, R111, R119; log 22). -/
theorem autoClaimable_iff_conditions (s : State) (i : SlotId) : s.autoClaimable i = true ↔
    s.lifeOf i = .off ∧ (s.lineSet i).present.level = true ∧ s.staging.rail = .good ∧
      (s.slot i).override = false := by
  simp only [State.autoClaimable, State.claimable, State.isPresent, State.railGood, Bool.and_eq_true,
    beq_iff_eq, Bool.not_eq_true', and_assoc]

/-! ### Hot and cool (R126 to R128) -/

theorem heated_eq (u : Staging) : u.heated = { u with
    coolTimer := none
    restore := .clear
    shedLevel := if u.restore = .clear then u.shedLevel else 0 } := by
  unfold Staging.heated
  dsimp only
  by_cases h : u.restore = .clear
  · rw [if_pos h, if_pos h, ← h]
  · rw [if_neg h, if_neg h]

theorem railGood_iff (s : State) : s.railGood = true ↔ s.staging.rail = .good := beq_iff_eq

/-- HOT takes an escalation step where shedding is enabled and the rail is GOOD (R126). -/
theorem thermRises_eq (s : State) : thermRises s = latchThermal
    (if s.staging.shedEnable = true ∧ s.staging.rail = .good
      then escalate (s.setStaging s.staging.heated) else s.setStaging s.staging.heated) := by
  have hsteps : ((s.setStaging s.staging.heated).staging.shedEnable &&
      (s.setStaging s.staging.heated).railGood) = true ↔
      s.staging.shedEnable = true ∧ s.staging.rail = .good := by
    rw [Bool.and_eq_true, railGood_iff, State.setStaging_staging, heated_eq]
  exact congrArg latchThermal (if_congr hsteps rfl rfl)

theorem thermFalls_eq (s : State) : thermFalls s = s.setStaging { s.staging with
    escalationTimer := none
    coolTimer := if s.staging.rail = .good then some (s.staging.coolTime * 1000)
      else s.staging.coolTimer } := by
  simp only [thermFalls, railGood_iff]
  split <;> rfl

theorem escalationRunsOut_eq (s : State) : escalationRunsOut s =
    if s.staging.escalationTimer.isSome = true then escalate s else s := by
  cases h : s.staging.escalationTimer <;> simp [escalationRunsOut, h]

theorem coolRunsOut_of_stopped {s : State} (h : s.staging.coolTimer = none) : coolRunsOut s = s := by
  simp only [coolRunsOut, h]

/-- A restore begins where the shed list is not empty (R128). -/
theorem coolRunsOut_of_running {s : State} (h : s.staging.coolTimer.isSome = true) :
    coolRunsOut s = s.setStaging { s.staging with
      coolTimer := none
      restore := if s.staging.shedList = [] then s.staging.restore else .between } := by
  obtain ⟨left, hleft⟩ := Option.isSome_iff_exists.mp h
  simp only [coolRunsOut, hleft]
  split <;> rfl

/-- Settles O58: the rows by `thermRises_eq` and the lemmas beside it, an escalation step slot by slot from
`shedSlot`, and a restore by the three things it does with the slot at the tail. -/
theorem heatShedsAndCoolRestores : Obligations.HeatShedsAndCoolRestores := by
  refine ⟨fun s hrun => ?_, fun s => ?_, fun s rest p _ hlist hp => ?_,
    fun s h => restoreNext_of_empty h⟩
  · intro taken
    have expires : ∀ {f : State → State} {t : State}, f s = t → run f s = .next t.concluded :=
      fun ht => (run_of_running hrun).trans (by rw [ht])
    refine ⟨fun hl => run_lineTakes_of_level (p := .therm) hrun rfl hl, fun hl => ?_,
      fun hl => run_lineTakes_of_level (p := .therm) hrun rfl hl, fun hl => ?_, ?_,
      fun h => expires (coolRunsOut_of_stopped h), fun h => expires (coolRunsOut_of_running h)⟩
    · refine run_lineTakes_of_edge (p := .therm) hrun rfl (by rw [hl]; decide) ?_
      exact (thermRises_eq (taken true)).trans (by rw [heated_eq]; rfl)
    · exact run_lineTakes_of_edge (p := .therm) hrun rfl (by rw [hl]; decide)
        (thermFalls_eq (taken false))
    · refine (run_of_running hrun).trans ?_
      rw [escalationRunsOut_eq]
      split <;> rfl
  · intro eligible shed
    have heligible : ∀ level i, s.eligible level i = true ↔ eligible level i := fun level i =>
      eligible_iff s level i
    refine ⟨fun hnone => escalate_of_none ((nextLevel_eq_none_iff s).mpr fun level i hl hu he =>
      hnone level i hl hu ((heligible level i).mp he)), fun level hlow hhigh hfinds hsmallest => ?_⟩
    have hlevel : s.nextLevel = some level := nextLevel_of_smallest hlow hhigh
      (hfinds.imp fun i => (heligible level i).mpr) fun lower i hl hu he =>
        hsmallest lower i hl hu ((heligible lower i).mp he)
    intro t found done
    have hfound : found = s.found level := List.filter_congr fun i _ =>
      Bool.eq_iff_iff.mpr (decide_eq_true_iff.trans (heligible level i).symm)
    have hmem : ∀ i, i ∈ s.found level ↔ eligible level i := fun i => mem_found.trans (heligible level i)
    have hdone : done = s.shedAt level := by
      have hshed : shed = shedSlot := rfl
      change found.foldl shed _ = _
      rw [hfound, hshed]
      rfl
    have hslot : ∀ i, eligible level i → t.slot i = _ := fun i hi =>
      escalate_slot_of_eligible hlevel ((heligible level i).mpr hi)
    have hother : ∀ i, ¬ eligible level i → t.slot i = { s.slot i with holds := (t.slot i).holds } :=
      fun i hi => escalate_slot_of_other hlevel fun he => hi ((heligible level i).mp he)
    refine ⟨(escalate_of_some hlevel).trans (by rw [hdone]), ?_, fun i => ?_, fun i hi => ?_, hother,
      fun e he => ?_, escalate_outside s⟩
    · refine (escalate_staging hlevel).trans ?_
      rw [shedAt_staging, hfound]
      simp only [hmem]
      rfl
    · by_cases hi : eligible level i
      · rw [if_pos hi, State.lifeOf, hslot i hi]
        exact shed_state ..
      · rw [if_neg hi, State.lifeOf, hother i hi]; rfl
    · rw [hslot i hi]
      exact shed_fields ..
    · exact escalate_entry hlevel fun i hi heq => he i ((heligible level i).mp hi)
        (congrArg Fin.val heq)
  · intro t removed
    obtain ⟨next, queue, hstaging⟩ := restoreNext_staging hlist hp
    have hshort : t.staging.shedList = rest := by rw [hstaging]; rfl
    have hlevel : t.staging.shedLevel = if rest = [] then 0 else s.staging.shedLevel := by
      rw [hstaging]; rfl
    have hends : rest = [] → t.staging.restore = .clear := fun hrest => by
      rw [hstaging]; exact if_pos hrest
    refine ⟨restoreNext_of_asleep hlist hp, restoreNext_of_claim hlist hp,
      restoreNext_of_passed hlist hp, autoClaimable_iff_conditions s p.slot, hshort,
      fun hrest => ⟨hlevel.trans (if_pos hrest), hends hrest⟩,
      fun hrest => hlevel.trans (if_neg hrest), fun ha hs hpgood => ?_,
      restoreNext_claimed hlist hp, fun ha hs hpgood => ?_, restoreNext_last hlist hp,
      fun i hi => Slot.eq_of_unheld (restoreNext_unheld_ne hlist hp hi),
      fun e he => restoreNext_entry_ne hlist hp fun heq => he (congrArg Fin.val heq),
      restoreNext_outside s⟩
    · have hlater : ¬ s.wakesAtOnce p.slot := fun hboth => by
        rw [State.wakesAtOnce, hpgood] at hboth; cases hboth.1
      exact ⟨(restoreNext_lifeOf_of_asleep hlist hp ha hs).trans (if_neg hlater),
        restoreNext_restore_of_asleep hlist hp ha hs hlater⟩
    · refine (restoreNext_lifeOf_of_asleep hlist hp ha hs).trans ?_
      simp only [State.wakesAtOnce, hpgood, true_and, ite_not]

end Sys2Proof.Machine
end

section
/-! PROOF. The general timers: TIMER_START and TIMER_STOP (R137, R139) by the ranges of their fields, and the
expiry of a timer by its state and its mode (R138; O60). -/

namespace Sys2Proof.Machine

/-! ### The fields of TIMER_START and TIMER_STOP -/

theorem fourField_of_number {b : Byte} {t : TimerId} (h : b.toNat = t.val + 1) :
    fourField b = some t := by
  rw [fourField_of_range (by omega)]
  exact congrArg some (Fin.ext (by simp only [h, Nat.add_sub_cancel]))

theorem timerModeField_code (m : TimerMode) : timerModeField m.code = some m := by
  cases m <;> rfl

theorem timerModeField_of_outside {b : Byte} (h : 1 < b.toNat) : timerModeField b = none := by
  unfold timerModeField
  split
  · omega
  · omega
  · rfl

/-! ### The requests -/

theorem timerStart_of_range {b mode high low : Byte} {t : TimerId} {m : TimerMode} (s : State)
    (hb : b.toNat = t.val + 1) (hm : timerModeField mode = some m) (hinterval : high ++ low ≠ (0 : Half)) :
    timerStart [b, mode, high, low] s = answer .done (s.setTimer t
      { state := .running, mode := m, interval := high ++ low, remaining := high ++ low }) := by
  simp only [timerStart, fourField_of_number hb, hm]
  exact if_neg hinterval

/-- A start with any value out of range is refused and changes nothing. -/
theorem timerStart_of_outside {b mode high low : Byte} (s : State)
    (h : b.toNat = 0 ∨ 4 < b.toNat ∨ 1 < mode.toNat ∨ high ++ low = (0 : Half)) :
    timerStart [b, mode, high, low] s = answer .badValue s := by
  unfold timerStart
  dsimp only
  split
  · rename_i t m hb hmode
    have hinterval : halfOf high low = 0 := by
      rcases h with h | h | h | h
      · rw [fourField_of_outside (by omega)] at hb; cases hb
      · rw [fourField_of_outside (by omega)] at hb; cases hb
      · rw [timerModeField_of_outside h] at hmode; cases hmode
      · exact h
    exact if_pos hinterval
  · rfl

theorem timerStop_of_running {b : Byte} {t : TimerId} {s : State} (hb : b.toNat = t.val + 1)
    (h : (s.timer t).state = .running) :
    timerStop [b] s = answer .done (s.setTimer t (s.timer t).halted) := by
  simp only [timerStop, fourField_of_number hb, h]

theorem timerStop_of_stopped {b : Byte} {t : TimerId} {s : State} (hb : b.toNat = t.val + 1)
    (h : (s.timer t).state = .stopped) : timerStop [b] s = answer .done s := by
  simp only [timerStop, fourField_of_number hb, h]

theorem timerStop_of_outside {b : Byte} (s : State) (h : b.toNat = 0 ∨ 4 < b.toNat) :
    timerStop [b] s = answer .badValue s := by
  simp only [timerStop, fourField_of_outside (b := b) (by omega)]

/-! ### The expiry (R138) -/

@[simp] theorem occur_timer (e : EntryId) (d : Option Half) (s : State) (t : TimerId) :
    (occur e d s).timer t = s.timer t := by
  simp only [State.timer, timers_of_outside (occur_outside e d s)]

theorem timerRunsOut_of_running {s : State} {t : TimerId} (h : (s.timer t).state = .running) :
    timerRunsOut t s = (occur (timerEntry t) none s).setTimer t (s.timer t).expired := by
  simp only [timerRunsOut, h, occur_timer]

theorem timerRunsOut_of_stopped {s : State} {t : TimerId} (h : (s.timer t).state = .stopped) :
    timerRunsOut t s = s := by simp only [timerRunsOut, h]

theorem expired_of_once {x : GeneralTimer} (h : x.mode = .once) :
    x.expired = { x with state := .stopped, remaining := 0 } := by
  simp only [GeneralTimer.expired, h, GeneralTimer.halted]

theorem expired_of_repeats {x : GeneralTimer} (h : x.mode = .repeats) :
    x.expired = { x with remaining := x.interval } := by simp only [GeneralTimer.expired, h]

/-- Settles O60: the requests by the ranges of their fields and the timer's state, the expiry by state and
mode. -/
theorem timersStartStopAndRunOut : Obligations.TimersStartStopAndRunOut := by
  refine ⟨fun s seq b mode high low h => ⟨fun t hb => ⟨fun m hmode hinterval => ?_,
    fun hstate => ?_, fun hstate => ?_⟩, fun houtside => ?_, fun houtside => ?_⟩,
    fun s t hrun => ?_⟩
  · obtain rfl : mode = m.code := hmode.trans (by cases m <;> rfl)
    exact exec_answer (c := .timerStart) h rfl
      (timerStart_of_range s hb (timerModeField_code m) hinterval) rfl
  · exact exec_answer (c := .timerStop) h rfl (timerStop_of_running hb hstate) rfl
  · exact exec_answer (c := .timerStop) h rfl (timerStop_of_stopped hb hstate) rfl
  · exact exec_answer (c := .timerStart) h rfl (timerStart_of_outside s houtside) rfl
  · exact exec_answer (c := .timerStop) h rfl (timerStop_of_outside s houtside) rfl
  · intro told
    have expires : ∀ {u : State}, timerRunsOut t s = u →
        exec (.timerExpiry t) s = .next u.concluded :=
      fun hu => (run_of_running hrun).trans (by rw [hu])
    exact ⟨fun hstate hmode => expires ((timerRunsOut_of_running hstate).trans
        (by rw [expired_of_once hmode]; rfl)),
      fun hstate hmode => expires ((timerRunsOut_of_running hstate).trans
        (by rw [expired_of_repeats hmode]; rfl)),
      fun hstate => expires (timerRunsOut_of_stopped hstate)⟩

end Sys2Proof.Machine
end

section
/-! PROOF. The step on an empty queue (log 4): what one count of the time base makes of each record (R4, R53,
R135, R136), when each command is due, and how what is due is carried out (log 5; O2). -/

namespace Sys2Proof.Machine

/-! ### One count of the time base (R135) -/

@[simp] theorem counted_timer (s : State) (t : TimerId) :
    s.counted.timer t = (s.timer t).counted := by
  simp [State.counted, State.timer]

@[simp] theorem counted_channel (s : State) (c : ChannelId) :
    s.counted.channel c = (s.channel c).counted := by
  cases c <;> rfl

theorem timer_counted_of_running {x : GeneralTimer} (h : x.state = .running) (hleft : x.remaining ≠ 0) :
    x.counted = { x with remaining := x.remaining - 1 } := by
  simp only [GeneralTimer.counted, h, if_neg hleft]

theorem timer_counted_of_stopped {x : GeneralTimer} (h : x.state = .stopped) : x.counted = x := by
  simp only [GeneralTimer.counted, h]

/-- The off timer stops at its maximum (log 16). -/
theorem slot_counted_offTimer (x : Slot) : x.counted.offTimer =
    if x.offTimer < 0xFFFFFFFF then x.offTimer + 1 else 0xFFFFFFFF := by
  simp only [Slot.counted]
  split <;> omega

theorem slot_counted (x : Slot) : x.counted = { x with
    step := x.step.map fun t => { t with left := t.left - 1 }
    offTimer := if x.offTimer < 0xFFFFFFFF then x.offTimer + 1 else 0xFFFFFFFF
    verdictTimer := countDown x.verdictTimer
    idleTimer := countDown x.idleTimer
    heartbeat := countDown x.heartbeat
    buttonHold := countDown x.buttonHold } := by
  rw [← slot_counted_offTimer]; rfl

theorem countDown_eq_zero_iff (t : Option Nat) : countDown t = some 0 ↔ t = some 1 ∨ t = some 0 := by
  rcases t with _ | _ | _ | n <;> simp [countDown]

/-- A fall of SLPREQ at the end of its period is taken with the count (R78, log 4). -/
theorem fallen_counted (l : Line) : l.counted.fallen =
    if l.pin = false ∧ (l.period = some 1 ∨ l.period = some 0) then Line.settled false
    else l.counted := by
  refine if_congr ?_ rfl rfl
  rw [and_comm, ← countDown_eq_zero_iff]
  rfl

theorem lines_counted (l : SlotLines) : l.counted = { l with
    wake := l.wake.counted
    alert := l.alert.counted
    slpReq := if l.slpReq.pin = false ∧ (l.slpReq.period = some 1 ∨ l.slpReq.period = some 0)
      then Line.settled false else l.slpReq.counted
    btn := l.btn.counted
    present := l.present.counted
    pgood := l.pgood.counted } := by
  rw [← fallen_counted]; rfl

/-! ### What is due, block by block -/

/-- A line's period has run out at a pin level. -/
abbrev Line.EndedAt (l : Line) (pin : Bool) : Prop := l.period = some 0 ∧ l.pin = pin

/-- A slot's step of a kind has run out. -/
abbrev Slot.RanOut (x : Slot) (kind : StepKind) : Prop := x.step = some { kind := kind, left := 0 }

theorem mem_dueIf {b : Bool} {c d : Instr} : c ∈ dueIf b d ↔ c = d ∧ b = true := by
  cases b <;> simp [dueIf]

theorem ripe_iff (l : Line) : l.ripe = true ↔ l.period = some 0 := beq_iff_eq

/-- A line whose edges have a row for each level. -/
theorem ended_of_two_rows {l : Line} {c rise fall : Instr} :
    ((c = if l.pin = true then rise else fall) ∧ l.period = some 0) ↔
      (c = rise ∧ l.EndedAt true) ∨ (c = fall ∧ l.EndedAt false) := by
  cases hpin : l.pin <;> simp [Line.EndedAt, hpin]

theorem mem_dueStep {x : Slot} {i : SlotId} {c : Instr} : c ∈ x.dueStep i ↔
    (c = .powerupLimitExpiry i ∧ x.RanOut .powerUp ∧ x.state ≠ .waking) ∨
    (c = .wakingPowerupLimitExpiry i ∧ x.RanOut .powerUp ∧ x.state = .waking) ∨
    (c = .resetHoldEnd i ∧ x.RanOut .resetHold ∧ x.state ≠ .resetting) ∨
    (c = .resettingEnd i ∧ x.RanOut .resetHold ∧ x.state = .resetting) ∨
    (c = .sleepEntryLimitExpiry i ∧ x.RanOut .sleepEntry) ∨
    (c = .wakeLimitExpiry i ∧ x.RanOut .wake) ∨
    (c = .stopLimitExpiry i ∧ x.RanOut .stop) ∨
    (c = .holdWaitExpiry i ∧ x.RanOut .holdWait) := by
  obtain hstep | ⟨⟨kind, left⟩, hstep⟩ := Option.eq_none_or_eq_some x.step
  · simp [Slot.dueStep, Slot.RanOut, hstep]
  · have hdue : c ∈ x.dueStep i ↔ c = stepCommand i x.state kind ∧ left = 0 := by
      simp [Slot.dueStep, hstep, mem_dueIf]
    rw [hdue]
    cases kind
    case powerUp => by_cases hstate : x.state = .waking <;> simp [Slot.RanOut, hstep, stepCommand, hstate]
    case resetHold =>
      by_cases hstate : x.state = .resetting <;> simp [Slot.RanOut, hstep, stepCommand, hstate]
    all_goals simp [Slot.RanOut, hstep, stepCommand]

theorem mem_dueAtSlot {s : State} {i : SlotId} {c : Instr} : c ∈ s.dueAtSlot i ↔
    (c = .wakeLineRise i ∧ (s.lineSet i).wake.EndedAt true) ∨
    (c = .wakeLineFall i ∧ (s.lineSet i).wake.EndedAt false) ∨
    (c = .alertEdge i (s.lineSet i).alert.pin ∧ (s.lineSet i).alert.period = some 0) ∨
    (c = .slpreqRise i ∧ (s.lineSet i).slpReq.period = some 0) ∨
    (c = .buttonPress i ∧ (s.lineSet i).btn.EndedAt true) ∨
    (c = .buttonRelease i ∧ (s.lineSet i).btn.EndedAt false) ∨
    (c = .insertion i ∧ (s.lineSet i).present.EndedAt true) ∨
    (c = .removal i ∧ (s.lineSet i).present.EndedAt false) ∨
    (c = .pgLost i ∧ (s.lineSet i).pgood.period = some 0) ∨
    c ∈ (s.slot i).dueStep i ∨
    (c = .verdictExpiry i ∧ (s.slot i).verdictTimer = some 0) ∨
    (c = .idleExpiry i ∧ (s.slot i).idleTimer = some 0) ∨
    (c = .heartbeatExpiry i ∧ (s.slot i).heartbeat = some 0) ∨
    (c = .buttonHoldExpiry i ∧ (s.slot i).buttonHold = some 0) := by
  simp only [State.dueAtSlot, List.mem_append, mem_dueIf, ripe_iff, beq_iff_eq, ended_of_two_rows,
    or_assoc]

theorem mem_dueAtBoard {s : State} {c : Instr} : c ∈ s.dueAtBoard ↔
    (∃ n, c = .geiEdge n (s.geiLine n).pin ∧ (s.geiLine n).period = some 0) ∨
    (c = .maingoodRelease ∧ s.board.mainGood.period = some 0) ∨
    (c = .thermAssert ∧ s.board.therm.EndedAt true) ∨
    (c = .thermRelease ∧ s.board.therm.EndedAt false) ∨
    (c = .staggerExpiry ∧ s.staging.staggerTimer = some 0) ∨
    (c = .offTimeElapsed ∧ s.releasable.isSome = true) ∨
    (c = .settleExpiry ∧ s.staging.settleTimer = some 0) ∨
    (c = .escalationExpiry ∧ s.staging.escalationTimer = some 0) ∨
    (c = .coolExpiry ∧ s.staging.coolTimer = some 0) := by
  simp only [State.dueAtBoard, List.mem_append, List.mem_flatMap, List.mem_finRange, true_and,
    mem_dueIf, ripe_iff, beq_iff_eq, ended_of_two_rows, or_assoc]

/-- The head of the start queue is free to go by its off timer (R115, R117). -/
theorem releasable_isSome_iff (s : State) : s.releasable.isSome = true ↔
    ∃ p rest, s.staging.startQueue = p :: rest ∧
      (∀ i : SlotId, s.lifeOf i ≠ .powering ∧ s.lifeOf i ≠ .releasing) ∧
      s.staging.staggerTimer = none ∧ s.staging.rail = .good ∧
      (s.slot p.slot).config.offTime * 100 ≤ (s.slot p.slot).offTimer := by
  cases hq : s.staging.startQueue with
  | nil => simp [State.releasable, hq]
  | cons p rest =>
    rw [releasable_of_head hq]
    simp only [Option.isSome_ite, List.cons.injEq]
    refine ⟨fun ⟨hidle, hstagger, hoff, hrail⟩ => ⟨p, rest, ⟨rfl, rfl⟩, hidle, hstagger, hrail, hoff⟩, ?_⟩
    rintro ⟨_, _, ⟨rfl, rfl⟩, hidle, hstagger, hrail, hoff⟩
    exact ⟨hidle, hstagger, hoff, hrail⟩

theorem mem_dueAtTimer {s : State} {t : TimerId} {c : Instr} : c ∈ s.dueAtTimer t ↔
    c = .timerExpiry t ∧ (s.timer t).state = .running ∧ (s.timer t).remaining = 0 := by
  simp only [State.dueAtTimer, mem_dueIf, Bool.and_eq_true, beq_iff_eq]

theorem mem_dueAtChannel {s : State} {d : ChannelId} {c : Instr} : c ∈ s.dueAtChannel d ↔
    (c = .offerTimeout d ∧ (s.channel d).offerTimer = .running 0) ∨
    (c = .serviceExpiry d ∧ (s.channel d).serviceTimer = some 0) := by
  simp only [State.dueAtChannel, List.mem_append, mem_dueIf, beq_iff_eq]

theorem mem_dueOnLink {s : State} {c : Instr} : c ∈ s.dueOnLink ↔
    (c = .gapTimeout ∧ s.link.gapTimer = some 0) ∨
    (c = .breakDetect ∧ s.link.breakTimer = some 0) := by
  simp only [State.dueOnLink, List.mem_append, mem_dueIf, beq_iff_eq]

theorem mem_due {s : State} {c : Instr} : c ∈ s.due ↔
    c ∈ s.dueAtBoard ∨ (∃ i, c ∈ s.dueAtSlot i) ∨ (∃ t, c ∈ s.dueAtTimer t) ∨
      (∃ d, c ∈ s.dueAtChannel d) ∨ c ∈ s.dueOnLink := by
  have hchannels : (∃ d, c ∈ s.dueAtChannel d) ↔
      c ∈ s.dueAtChannel .priority ∨ c ∈ s.dueAtChannel .routine :=
    ⟨fun ⟨d, hd⟩ => by cases d; exacts [.inl hd, .inr hd], fun h => h.elim (⟨_, ·⟩) (⟨_, ·⟩)⟩
  simp only [State.due, List.mem_append, List.mem_flatMap, List.mem_finRange, true_and, hchannels,
    or_assoc]

/-! ### What is due is carried out (log 5) -/

theorem carryOutDue_of_calm (n : Nat) {v : State} (h : v.due = []) : carryOutDue n v = .next v := by
  cases n with
  | zero => rfl
  | succ n => simp only [carryOutDue, h, List.getElem?_nil]

/-- A draw changes the count of choices alone, and one event alone draws none. -/
theorem drawn_state (v : State) (k : Nat) :
    (v.drawn k).2 = { v with choices := if k ≤ 1 then v.choices else v.choices + 1 } := by
  simp only [State.drawn]
  split <;> rfl

theorem drawn_lt (v : State) {k : Nat} (h : 0 < k) : (v.drawn k).1 < k := by
  simp only [State.drawn]
  split
  · exact h
  · exact Nat.mod_lt _ h

theorem carryOutDue_of_drawn {n : Nat} {v t : State} {c : Instr}
    (hc : v.due[(v.drawn v.due.length).1]? = some c)
    (ht : exec c (v.drawn v.due.length).2 = .next t) :
    carryOutDue (n + 1) v = carryOutDue n t := by
  simp only [carryOutDue, hc, ht]

/-- One event that is due is carried out, and then what is due behind it. -/
theorem carryOutDue_of_due (n : Nat) {v : State} (h : v.due ≠ []) : ∃ (c : Instr) (drawn : Nat),
    c ∈ v.due ∧ (v.due = [c] → drawn = v.choices) ∧ (drawn = v.choices ∨ drawn = v.choices + 1) ∧
      ∀ t : State, exec c { v with choices := drawn } = .next t →
        carryOutDue (n + 1) v = carryOutDue n t := by
  have hdrawn := drawn_lt v (List.length_pos_iff.mpr h)
  refine ⟨v.due[(v.drawn v.due.length).1], if v.due.length ≤ 1 then v.choices else v.choices + 1,
    List.getElem_mem hdrawn, fun hone => if_pos ?_, ?_, fun t ht => ?_⟩
  · rw [hone]; rfl
  · split
    · exact .inl rfl
    · exact .inr rfl
  · exact carryOutDue_of_drawn (List.getElem?_eq_getElem hdrawn) (by rwa [drawn_state])

theorem carryOutDue_of_one (n : Nat) {v t : State} {c : Instr} (h : v.due = [c])
    (ht : exec c v = .next t) : carryOutDue (n + 1) v = carryOutDue n t := by
  obtain ⟨d, drawn, hmem, hnone, -, hcarry⟩ := carryOutDue_of_due n (v := v) (by simp [h])
  obtain rfl : d = c := by simpa [h] using hmem
  exact hcarry t (by rwa [hnone h])

/-! ### The step on an empty queue (log 4) -/

theorem step_of_idle {s : State} (hqueue : s.pending = []) (h : s.phase ≠ .running) :
    step s = .next s := by
  simp only [step, hqueue, tick, if_neg h]

theorem step_of_tick {s : State} (hqueue : s.pending = []) (h : s.phase = .running) :
    step s = carryOutDue 1000 s.counted := by
  simp only [step, hqueue, tick, if_pos h]
  rfl

theorem timerExpiry_due {s : State} {t : TimerId} (hstate : (s.timer t).state = .running)
    (hlast : (s.timer t).remaining = 1) : Instr.timerExpiry t ∈ s.counted.due := by
  refine mem_due.mpr (.inr (.inr (.inl ⟨t, mem_dueAtTimer.mpr ⟨rfl, ?_⟩⟩)))
  rw [counted_timer, timer_counted_of_running hstate (by rw [hlast]; decide), hlast]
  exact ⟨hstate, rfl⟩

/-- Settles O2, by the records' counts, the steps of `carryOutDue`, and what is due block by block. -/
theorem anEmptyQueueIsOneMillisecond : Obligations.AnEmptyQueueIsOneMillisecond := by
  intro s hqueue u down counted
  refine ⟨step_of_idle hqueue, fun hrun hcalm => ?_, fun hrun c t hdue ht hcalm => ?_,
    step_of_tick hqueue, carryOutDue_of_calm, carryOutDue_of_due, rfl, fun t hstate hleft => ⟨?_,
      timerExpiry_due hstate⟩, fun t hstate => ?_, fun i => ?_, rfl, fun c => ?_, rfl,
    counted_geiLine s, rfl, rfl, rfl, fun i => ?_, rfl, rfl, rfl, rfl, rfl, rfl, rfl, fun c => ?_⟩
  · rw [step_of_tick hqueue hrun, carryOutDue_of_calm _ hcalm]
  · rw [step_of_tick hqueue hrun, carryOutDue_of_one 999 hdue ht, carryOutDue_of_calm _ hcalm]
  · rw [counted_timer, timer_counted_of_running hstate hleft]
  · rw [counted_timer, timer_counted_of_stopped hstate]
  · exact (counted_slot s i).trans (slot_counted _)
  · rw [counted_channel, Channel.counted]
    cases (s.channel c).offerTimer <;> rfl
  · exact (counted_lineSet s i).trans (lines_counted _)
  · clear_value u
    simp only [mem_due, mem_dueAtBoard, mem_dueAtSlot, mem_dueStep, mem_dueAtTimer,
      mem_dueAtChannel, mem_dueOnLink]
    cases c
    case geiEdge n level | alertEdge i level => simp [and_comm, eq_comm (a := level)]
    case offTimeElapsed => simp [releasable_isSome_iff]
    all_goals simp [State.lifeOf]

end Sys2Proof.Machine
end

section
/-! PROOF. The transmit arbiter (R153; O15) and the bound of the request queue (R150; O8). -/

namespace Sys2Proof.Machine

/-! ### The transmit arbiter (R153) -/

section Arbiter

variable {s : State}

theorem arbitrate_of_sending (h : s.link.tx ≠ .idle) : arbitrate s = s := by
  unfold arbitrate
  split
  case h_1 hidle => exact absurd hidle h
  all_goals rfl

theorem arbitrate_of_reply {f : Frame} (h : s.link.tx = .idle) (hreply : s.link.replyWaiting = some f) :
    arbitrate s = s.setLink { s.link with tx := .reply f, replyWaiting := none } := by
  simp only [arbitrate, h, hreply]

theorem arbitrate_of_priority (h : s.link.tx = .idle) (hreply : s.link.replyWaiting = none)
    (hsend : s.priority.sendWaiting = true) : arbitrate s = beginNotice .priority s := by
  simp only [arbitrate, h, hreply, hsend, if_true]

theorem arbitrate_of_routine (h : s.link.tx = .idle) (hreply : s.link.replyWaiting = none)
    (hnone : s.priority.sendWaiting = false) (hsend : s.routine.sendWaiting = true) :
    arbitrate s = beginNotice .routine s := by
  simp only [arbitrate, h, hreply, hnone, hsend, Bool.false_eq_true, if_true, if_false]

theorem arbitrate_of_nothing (hreply : s.link.replyWaiting = none)
    (hpriority : s.priority.sendWaiting = false) (hroutine : s.routine.sendWaiting = false) :
    arbitrate s = s := by
  by_cases h : s.link.tx = .idle
  · simp only [arbitrate, h, hreply, hpriority, hroutine, Bool.false_eq_true, if_false]
  · exact arbitrate_of_sending h

/-- With no reply waiting, and a notice only behind a frame on TXD, the arbiter begins nothing. -/
theorem arbitrate_of_unclaimed (hreply : s.link.replyWaiting = none)
    (hnotices : s.link.tx = .idle → s.priority.sendWaiting = false ∧ s.routine.sendWaiting = false) :
    arbitrate s = s := by
  by_cases h : s.link.tx = .idle
  · obtain ⟨hpriority, hroutine⟩ := hnotices h
    exact arbitrate_of_nothing hreply hpriority hroutine
  · exact arbitrate_of_sending h

theorem takeable_of_no_request (h : s.link.queue = []) : s.takeable = none := by
  simp [State.takeable, h]

theorem takeable_of_request {r : Request} {rest : List Request} (h : s.link.queue = r :: rest)
    (hreply : s.link.replyWaiting = none) (hmark : s.link.restartPending = false) :
    s.takeable = some r := by
  simp [State.takeable, h, hreply, hmark]

end Arbiter

/-- Settles O15: a frame on TXD stays, and an idle TXD takes the first of its three claimants that waits. -/
theorem arbiterSendsRepliesFirst : Obligations.ArbiterSendsRepliesFirst := fun _ =>
  ⟨arbitrate_of_sending, fun h _ hreply => arbitrate_of_reply h hreply, arbitrate_of_priority,
    arbitrate_of_routine, arbitrate_of_nothing⟩

/-! ### The bound of the request queue (R150) -/

/-- What leaves the link leaves the request queue. -/
theorem queueBounded_of_outside {s t : State} (h : s.queueBounded) (ht : t.outside = s.outside) :
    t.queueBounded := by
  rwa [State.queueBounded, link_of_outside ht]

/-- The primitive changes of State keep the bound: only those of the link itself touch the queue. -/
theorem closed_queueBounded : Closed State.queueBounded where
  inside h _ _ _ _ _ _ _ hqueue := hqueue.elim (fun hshorter => hshorter.trans h) id
  staging h _ _ _ _ := h
  unlist h := queueBounded_of_outside h (unlist_outside _ _)
  emptied h _ _ _ _ := h
  returned h _ := h
  slot h _ _ _ _ _ := h
  slots h _ := h
  hold h := h
  unhold h _ := h
  discard h := h
  counted h := h
  cold _ := queueBounded_coldStart _ _
  enter h _ _ _ _ _ := queueBounded_of_outside h (enter_outside _ _ _ _ _)
  release h _ _ _ := queueBounded_of_outside h (enter_outside _ _ _ _ _)
  enqueue h _ _ _ _ := queueBounded_of_outside h (enqueue_outside _ _ _)
  shed {s} _ _ _ _ _ h _ _ _ := queueBounded_of_outside (s := s) h (enter_outside _ _ _ _ _)
  override h := queueBounded_of_outside h (overrideSlot_outside _ _)
  occur h := queueBounded_of_outside h (occur_outside _ _ _)
  clearEntry h := queueBounded_of_outside h (clearEntry_outside _ _)
  reconfigure h := queueBounded_of_outside h (reconfigure_outside _ _ _)
  channel h _ _ _ _ := queueBounded_of_outside h (setChannel_outside _ _ _)
  compose h := queueBounded_of_outside h (compose_outside _ _)
  endNotice h _ := queueBounded_of_outside h (endNotice_outside _ _ _)
  restart h := h

/-- Settles O8: the bound is closed under every primitive change of State, and so under every step. -/
theorem requestQueueStaysBounded : Obligations.RequestQueueStaysBounded :=
  fun _ _ hs ht => closed_queueBounded.step id hs ht

end Sys2Proof.Machine
end

section
/-! PROOF. The check value, the judging of a frame and its discards (R145 to R149; O18), the receiver's taking of a
byte (R146, R147, R154; O16), and the frame that its bytes make (O17). -/

namespace Sys2Proof.Machine

/-! ### The check value (R145) -/

theorem crc_append (bytes : List Byte) (b : Byte) : crc (bytes ++ [b]) = crcByte (crc bytes) b := by
  rw [crc, List.foldl_append]; rfl

/-- A byte as the high byte of a half. -/
theorem setWidth_shiftLeft_eight (b : Byte) : (b.setWidth 16 <<< 8 : Half) = b ++ (0x00 : Byte) := by
  refine BitVec.eq_of_getLsbD_eq fun i hi => ?_
  simp only [BitVec.getLsbD_append, BitVec.getLsbD_shiftLeft, BitVec.getLsbD_setWidth]
  by_cases h : i < 8
  · simp [h]
  · have hlow : i - 8 < 16 := by omega
    simp [h, hi, hlow]

/-- A byte's advance of the check register is eight times that of one bit. -/
theorem crcByte_eq (register : Half) (b : Byte) : crcByte register b =
    (List.range 8).foldl (fun register _ => crcBit register) (register ^^^ (b ++ (0x00 : Byte))) := by
  rw [← setWidth_shiftLeft_eight]; rfl

/-! ### A discard (R149) -/

/-- A discard counts up to FFFFh, stops the receiver, and is an occurrence of entry 59 with its reason. -/
theorem discard_eq {reason : DiscardReason} {code : Half} (s : State)
    (hcode : halfOf 0 reason.code = code) : discard reason s =
      occur 59 (some code) (s.setLink { s.link with
        receiver := .hunt
        gapTimer := none
        discardCount := if s.link.discardCount = 0xFFFF then 0xFFFF else s.link.discardCount + 1 }) := by
  rw [discard, hcode, satInc_half]; rfl

/-! ### The judging of a complete frame (R148) -/

section Judge

variable {f : Frame} {check : Half} {s : State}

theorem judge_of_badCheck (h : f.check ≠ check) : judge f check s = discard .badCheck s := if_pos h

theorem judge_of_badKind (h : f.check = check) (hkind : f.kind ≠ 0x01) :
    judge f check s = discard .badKind s := by
  rw [judge, if_neg (not_not.mpr h), if_pos hkind]

theorem judge_of_request (h : f.check = check) (hkind : f.kind = 0x01) :
    judge f check s = queueRequest { seq := f.seq, payload := f.payload } s := by
  rw [judge, if_neg (not_not.mpr h), if_neg (not_not.mpr hkind)]

theorem queueRequest_of_full {r : Request} (h : 4 ≤ s.link.queue.length) :
    queueRequest r s = discard .queueFull s := if_pos h

theorem queueRequest_of_room {r : Request} (h : s.link.queue.length < 4) :
    queueRequest r s = s.setLink { s.link.hunting with queue := s.link.queue ++ [r] } :=
  if_neg (Nat.not_le.mpr h)

theorem frameArrives_of_break (h : s.link.inBreak = true) : frameArrives f check s = s := if_pos h

theorem frameArrives_of_long (h : s.link.inBreak = false) (hlong : 120 < f.payload.length) :
    frameArrives f check s = discard .badLength s := by
  rw [frameArrives, if_neg (by simp [h])]; exact if_pos hlong

theorem frameArrives_of_fitting (h : s.link.inBreak = false) (hfits : f.payload.length ≤ 120) :
    frameArrives f check s = judge f check s := by
  rw [frameArrives, if_neg (by simp [h])]; exact if_neg (Nat.not_lt.mpr hfits)

end Judge

theorem lenTooLong_eq (s : State) :
    lenTooLong s = if s.link.inBreak then s else discard .badLength s := rfl

theorem gapRunsOut_eq (s : State) :
    gapRunsOut s = if s.link.gapTimer.isSome then discard .gap s else s := by
  unfold gapRunsOut
  cases s.link.gapTimer <;> rfl

/-! ### The rows at a running part -/

theorem exec_rxFrame_of_running (seq kind : Byte) (payload : List Byte) (check : Half) {s : State}
    (h : s.phase = .running) : exec (.rxFrame seq kind payload check) s =
      .next (frameArrives { seq := seq, kind := kind, payload := payload } check s).concluded :=
  run_of_running h

theorem exec_rxLenTooLong_of_running {s : State} (h : s.phase = .running) :
    exec .rxLenTooLong s = .next (lenTooLong s).concluded := run_of_running h

theorem exec_gapTimeout_of_running {s : State} (h : s.phase = .running) :
    exec .gapTimeout s = .next (gapRunsOut s).concluded := run_of_running h

/-- Settles O18: the check value by its recursion, and each row by the tests of `judge` and the discard they end in. -/
theorem framesAreJudged : Obligations.FramesAreJudged := by
  refine ⟨rfl, fun bytes b => (crc_append bytes b).trans (crcByte_eq _ _), fun _ => rfl, ?_⟩
  intro s seq kind payload check hrun good hunting discarded
  have hcheck : Frame.check { seq := seq, kind := kind, payload := payload } = good := rfl
  clear_value good
  have discards : ∀ (reason : DiscardReason) (code : Half), halfOf 0 reason.code = code →
      (discard reason s).concluded = discarded code := fun _ _ hcode => by rw [discard_eq s hcode]
  rw [exec_rxFrame_of_running seq kind payload check hrun, exec_rxLenTooLong_of_running hrun,
    exec_gapTimeout_of_running hrun, ← discards .badCheck 1 rfl, ← discards .badLength 2 rfl,
    ← discards .gap 3 rfl, ← discards .badKind 4 rfl, ← discards .queueFull 5 rfl]
  refine ⟨fun hbreak => ?_, fun hbreak hlong => ?_, fun hbreak hfits => ?_, ?_, ?_⟩
  · rw [frameArrives_of_break hbreak]
  · rw [frameArrives_of_long hbreak hlong]
  · rw [frameArrives_of_fitting hbreak hfits]
    refine ⟨fun hbad => ?_, fun hgood hkind => ?_, fun hgood hkind hfull => ?_,
      fun hgood hkind hroom => ?_⟩
    · rw [judge_of_badCheck (hcheck.trans_ne hbad.symm)]
    · rw [judge_of_badKind (hcheck.trans hgood.symm) hkind]
    · rw [judge_of_request (hcheck.trans hgood.symm) hkind, queueRequest_of_full hfull]
    · rw [judge_of_request (hcheck.trans hgood.symm) hkind, queueRequest_of_room hroom]; rfl
  · rw [lenTooLong_eq, apply_ite State.concluded]
  · rw [gapRunsOut_eq, apply_ite State.concluded]

/-! ### A byte by the state of the receiver (R146) -/

section TakeByte

variable {s : State} {b len seq kind : Byte} {taken payload : List Byte}

theorem takeByte_of_start (h : s.link.receiver = .hunt) :
    takeByte 0xC3 s = receiving .headerLen s := by simp only [takeByte, h, if_true]

theorem takeByte_of_noise (h : s.link.receiver = .hunt) (hb : b ≠ 0xC3) : takeByte b s = s := by
  simp only [takeByte, h, if_neg hb]

theorem takeByte_of_len (h : s.link.receiver = .headerLen) (hb : b.toNat ≤ 120) :
    takeByte b s = receiving (.headerSeq b) s := by
  simp only [takeByte, h]; exact if_neg (Nat.not_lt.mpr hb)

theorem takeByte_of_long_len (h : s.link.receiver = .headerLen) (hb : 120 < b.toNat) :
    takeByte b s = discard .badLength s := by
  simp only [takeByte, h]; exact if_pos hb

theorem takeByte_of_seq (h : s.link.receiver = .headerSeq len) :
    takeByte b s = receiving (.headerKind len b) s := by simp only [takeByte, h]

theorem takeByte_of_kind (h : s.link.receiver = .headerKind len seq) : takeByte b s =
    receiving (if len = 0 then .checkHigh seq b [] else .body len seq b []) s := by
  simp only [takeByte, h]

theorem takeByte_of_body (h : s.link.receiver = .body len seq kind taken) : takeByte b s =
    receiving (if taken.length + 1 = len.toNat then .checkHigh seq kind (taken ++ [b])
      else .body len seq kind (taken ++ [b])) s := by
  simp only [takeByte, h, List.length_append, List.length_singleton]

theorem takeByte_of_checkHigh (h : s.link.receiver = .checkHigh seq kind payload) :
    takeByte b s = receiving (.checkLow seq kind payload b) s := by simp only [takeByte, h]

theorem takeByte_of_checkLow {high : Byte} (h : s.link.receiver = .checkLow seq kind payload high) :
    takeByte b s = judge ⟨seq, kind, payload⟩ (high ++ b) s := by simp only [takeByte, h, halfOf]

theorem byteArrives_of_break (h : s.link.inBreak = true) : byteArrives b s = s := if_pos h

theorem byteArrives_of_no_break (h : s.link.inBreak = false) : byteArrives b s = takeByte b s :=
  if_neg (by simp [h])

/-- The second check byte ends in what the whole frame does. -/
theorem exec_rxByte_of_checkLow {high : Byte} (hbreak : s.link.inBreak = false)
    (h : s.link.receiver = .checkLow seq kind payload high) (hfits : payload.length ≤ 120) :
    exec (.rxByte b) s = exec (.rxFrame seq kind payload (high ++ b)) s := by
  have heffect : byteArrives b s = frameArrives ⟨seq, kind, payload⟩ (high ++ b) s := by
    rw [byteArrives_of_no_break hbreak, takeByte_of_checkLow h, frameArrives_of_fitting hbreak hfits]
  change run _ s = run _ s
  rw [run, run, conclude, conclude, heffect]

end TakeByte

/-- Settles O16: each state of the receiver by what it makes of a byte. -/
theorem receiverTakesBytes : Obligations.ReceiverTakesBytes := by
  intro s b hrun
  have arrives : ∀ {t : State}, byteArrives b s = t → exec (.rxByte b) s = .next t.concluded :=
    fun ht => (run_of_running hrun).trans (by rw [ht])
  refine ⟨fun hbreak => arrives (byteArrives_of_break hbreak), fun hbreak => ?_⟩
  have takes : ∀ {t : State}, takeByte b s = t → exec (.rxByte b) s = .next t.concluded :=
    fun ht => arrives ((byteArrives_of_no_break hbreak).trans ht)
  refine ⟨fun r hr => takes (t := receiving r s) ?_, fun h hb => takes (takeByte_of_noise h hb),
    fun h hb => ?_, fun _ _ _ _ h hfits => exec_rxByte_of_checkLow hbreak h hfits⟩
  · rcases hr with ⟨h, rfl, rfl⟩ | ⟨h, hb, rfl⟩ | ⟨len, h, rfl⟩ | ⟨seq, h, rfl⟩ | ⟨len, seq, h, hlen, rfl⟩ |
      ⟨len, seq, kind, taken, h, hmore, rfl⟩ | ⟨len, seq, kind, taken, h, hlast, rfl⟩ |
      ⟨seq, kind, payload, h, rfl⟩
    · exact takeByte_of_start h
    · exact takeByte_of_len h hb
    · exact takeByte_of_seq h
    · rw [takeByte_of_kind h, if_pos rfl]
    · rw [takeByte_of_kind h, if_neg hlen]
    · rw [takeByte_of_body h, if_neg hmore]
    · rw [takeByte_of_body h, if_pos hlast]
    · exact takeByte_of_checkHigh h
  · rw [takes (takeByte_of_long_len h hb), exec_rxLenTooLong_of_running hrun, lenTooLong_eq,
      if_neg (by simp [hbreak])]

/-! ### A frame that comes byte by byte (R144 to R148) -/

/-- A running part with nothing left to do whose link, wherever its receiver stands, has nothing to take or to
begin: it does nothing of its own between two bytes of a frame. -/
abbrev State.undisturbed (s : State) : Prop :=
  s.phase = .running ∧ s.calm ∧ s.link.inBreak = false ∧ s.link.queue = [] ∧ s.link.replyWaiting = none ∧
    (s.link.tx = .idle → s.priority.sendWaiting = false ∧ s.routine.sendWaiting = false)

theorem undisturbed_of_linkFree {s : State} (hrun : s.phase = .running) (hcalm : s.calm)
    (hfree : s.linkFree) : s.undisturbed := by
  obtain ⟨-, -, hbreak, hqueue, hreply, -, hnotices⟩ := hfree
  exact ⟨hrun, hcalm, hbreak, hqueue, hreply, hnotices⟩

section Undisturbed

variable {s : State} (hs : s.undisturbed)
include hs

theorem undisturbed_receiving (r : Receiver) : (receiving r s).undisturbed := hs

theorem concluded_of_undisturbed : s.concluded = s := by
  obtain ⟨-, hcalm, -, hqueue, hreply, hnotices⟩ := hs
  have harbitrate := arbitrate_of_unclaimed hreply hnotices
  rw [concluded_of_calm hcalm, pump_of_none _ (by rw [harbitrate, takeable_of_no_request hqueue]),
    harbitrate]

/-- A byte inside a frame leads to the receiver's next state and nothing else. -/
theorem fed_cons_of_receiving {b : Byte} {r : Receiver} {rest : List Byte}
    (hb : takeByte b s = receiving r s) : s.fed (b :: rest) = (receiving r s).fed rest := by
  have hquiet := concluded_of_undisturbed (undisturbed_receiving hs r)
  obtain ⟨hrun, -, hbreak, -, -, -⟩ := hs
  have hexec : exec (.rxByte b) s = .next (receiving r s) := by
    refine (run_of_running hrun).trans ?_
    rw [byteArrives_of_no_break hbreak, hb, hquiet]
  rw [State.fed, hexec]

/-- The payload fills the BODY (R146). -/
theorem fed_body {len seq kind : Byte} {taken payload rest : List Byte} (hpayload : payload ≠ [])
    (hlen : taken.length + payload.length = len.toNat) :
    (receiving (.body len seq kind taken) s).fed (payload ++ rest) =
      (receiving (.checkHigh seq kind (taken ++ payload)) s).fed rest := by
  induction payload generalizing taken with
  | nil => exact absurd rfl hpayload
  | cons b payload ih =>
    rw [List.length_cons] at hlen
    rw [List.cons_append,
      fed_cons_of_receiving (undisturbed_receiving hs _) (takeByte_of_body rfl)]
    cases payload with
    | nil => exact congrArg (fun r => (receiving r s).fed rest) (if_pos hlen)
    | cons c payload =>
      rw [List.length_cons] at hlen
      rw [if_neg (by omega), List.append_cons taken b (c :: payload)]
      refine ih (List.cons_ne_nil c payload) ?_
      rw [List.length_append, List.length_singleton, List.length_cons]; omega

/-- From KIND on the payload, be it empty, brings the receiver to CHECK. -/
theorem fed_kind_payload {len seq kind : Byte} {payload rest : List Byte}
    (hlen : payload.length = len.toNat) :
    (receiving (.headerKind len seq) s).fed (kind :: (payload ++ rest)) =
      (receiving (.checkHigh seq kind payload) s).fed rest := by
  rw [fed_cons_of_receiving (undisturbed_receiving hs _) (takeByte_of_kind rfl)]
  cases payload with
  | nil =>
    rw [if_pos (BitVec.eq_of_toNat_eq hlen.symm)]; rfl
  | cons b payload =>
    have hne : len ≠ 0 := by rintro rfl; cases hlen
    rw [if_neg hne]
    exact fed_body hs (List.cons_ne_nil b payload) ((Nat.zero_add _).trans hlen)

end Undisturbed

/-- A row of one byte is that byte. -/
theorem fed_singleton (s : State) (b : Byte) : s.fed [b] = exec (.rxByte b) s := rfl

theorem discard_receiving (reason : DiscardReason) (r : Receiver) (s : State) :
    discard reason (receiving r s) = discard reason s := rfl

/-- A complete frame leaves the receiver in HUNT, wherever it stood. -/
theorem judge_receiving (f : Frame) (check : Half) (r : Receiver) (s : State) :
    judge f check (receiving r s) = judge f check s := by
  simp only [judge, queueRequest, discard_receiving]; rfl

theorem exec_rxFrame_receiving {s : State} {seq kind : Byte} {payload : List Byte} {check : Half}
    (r : Receiver) (hrun : s.phase = .running) (hbreak : s.link.inBreak = false)
    (hfits : payload.length ≤ 120) : exec (.rxFrame seq kind payload check) (receiving r s) =
      exec (.rxFrame seq kind payload check) s := by
  have heffect : frameArrives ⟨seq, kind, payload⟩ check (receiving r s) =
      frameArrives ⟨seq, kind, payload⟩ check s := by
    rw [frameArrives_of_fitting hbreak hfits, frameArrives_of_fitting (s := receiving r s) hbreak hfits,
      judge_receiving]
  rw [exec_rxFrame_of_running _ _ _ _ hrun,
    exec_rxFrame_of_running (s := receiving r s) _ _ _ _ hrun, heffect]

/-- Settles O17: the header, the payload and the first check byte each lead the receiver on, and the second check
byte ends in the whole frame, which does not look at the receiver. -/
theorem bytesMakeTheFrame : Obligations.BytesMakeTheFrame := by
  intro s seq kind high low payload hrun hcalm hfree hfits
  have hs := undisturbed_of_linkFree hrun hcalm hfree
  obtain ⟨hhunt, -, hbreak, -⟩ := hfree
  have hlen : (BitVec.ofNat 8 payload.length : Byte).toNat = payload.length := toNat_natByte (by omega)
  simp only [List.cons_append]
  calc s.fed (0xC3 :: BitVec.ofNat 8 payload.length :: seq :: kind :: (payload ++ [high, low]))
      = (receiving .headerLen s).fed
          (BitVec.ofNat 8 payload.length :: seq :: kind :: (payload ++ [high, low])) :=
        fed_cons_of_receiving hs (takeByte_of_start hhunt)
    _ = (receiving (.headerSeq (BitVec.ofNat 8 payload.length)) s).fed
          (seq :: kind :: (payload ++ [high, low])) :=
        fed_cons_of_receiving (undisturbed_receiving hs _) (takeByte_of_len rfl (by omega))
    _ = (receiving (.headerKind (BitVec.ofNat 8 payload.length) seq) s).fed
          (kind :: (payload ++ [high, low])) :=
        fed_cons_of_receiving (undisturbed_receiving hs _) (takeByte_of_seq rfl)
    _ = (receiving (.checkHigh seq kind payload) s).fed [high, low] := fed_kind_payload hs hlen.symm
    _ = (receiving (.checkLow seq kind payload high) s).fed [low] :=
        fed_cons_of_receiving (undisturbed_receiving hs _) (takeByte_of_checkHigh rfl)
    _ = exec (.rxFrame seq kind payload (high ++ low)) (receiving (.checkLow seq kind payload high) s) :=
        (fed_singleton _ low).trans (exec_rxByte_of_checkLow hbreak rfl hfits)
    _ = exec (.rxFrame seq kind payload (high ++ low)) s :=
        exec_rxFrame_receiving _ hrun hbreak hfits

end Sys2Proof.Machine
end

section
/-! PROOF. The tests of dispatch (R150 to R152, R161, R167, R168; O20) and the requests answered from the cache
(R152; O19). -/

namespace Sys2Proof.Machine

/-! ### The request that a payload names (R167) -/

theorem requestOf_byte_cons (c : ReqCode) (args : List Byte) : requestOf (c.byte :: args) = some c := by
  cases c <;> rfl

/-- A payload that begins with no request's code names none. -/
theorem requestOf_of_unknown {payload : List Byte} (h : ∀ c : ReqCode, payload.head? ≠ some c.byte) :
    requestOf payload = none := by
  cases payload with
  | nil => rfl
  | cons b rest =>
    refine List.find?_eq_none.mpr fun c _ hc => h c ?_
    rw [List.head?_cons, eq_of_beq hc]

theorem length_le_maxPayload (c : ReqCode) : c.length ≤ 120 := by cases c <;> decide

/-! ### The tests before the owner (R151) -/

section Perform

variable {c : ReqCode} {payload args : List Byte} {s : State}

theorem perform_of_unknown (h : ∀ c : ReqCode, payload.head? ≠ some c.byte) :
    perform payload s = answer .badCode s := by
  simp only [perform, requestOf_of_unknown h]

theorem perform_of_length (h : args.length + 1 ≠ c.length) :
    perform (c.byte :: args) s = answer .badLength s := by
  simp only [perform, requestOf_byte_cons, List.length_cons, if_pos h]

theorem perform_of_ungreeted (h : args.length + 1 = c.length) (hgreeted : s.link.greeted = false)
    (hhello : c ≠ .hello) : perform (c.byte :: args) s = answer .wrongState s := by
  simp only [perform, requestOf_byte_cons, List.length_cons, if_neg (not_not.mpr h),
    if_pos (And.intro hgreeted hhello)]

theorem perform_of_owner (h : args.length + 1 = c.length)
    (hgoes : s.link.greeted = true ∨ c = .hello) : perform (c.byte :: args) s = carryOut c args s := by
  have hpasses : ¬ (s.link.greeted = false ∧ c ≠ .hello) := by
    rintro ⟨hgreeted, hhello⟩
    exact hgoes.elim (fun hg => Bool.false_ne_true (hgreeted.symm.trans hg)) hhello
  simp only [perform, requestOf_byte_cons, List.length_cons, if_neg (not_not.mpr h),
    if_neg hpasses, List.tail_cons]

end Perform

/-! ### Dispatch (R151, R152) -/

/-- A request whose SEQ is the cached one is answered from the cache and counted. -/
theorem dispatch_of_cached {r : Request} {reply : List Byte} {s : State}
    (h : s.link.cache = some { seq := r.seq, payload := reply }) : dispatch r s =
      s.setLink { s.link with
        replyWaiting := some { seq := r.seq, kind := 0x02, payload := reply }
        duplicateCount :=
          if s.link.duplicateCount = 0xFFFF then 0xFFFF else s.link.duplicateCount + 1 } := by
  simp only [dispatch, h, if_true, replay, satInc_half, replyFrame]

/-- Every other request is executed. -/
theorem dispatch_of_fresh {r : Request} {s : State} (h : s.freshSeq r.seq) :
    dispatch r s = execute r s := by
  unfold dispatch
  split
  · rename_i cached hcached
    exact if_neg fun hseq => h (by rw [hcached, Option.map_some, hseq])
  · rfl

/-! ### A request that is taken as it arrives (R148, R150) -/

section Arrival

variable {seq : Byte} {payload : List Byte} {s : State}

/-- A good request frame within LEN is its request, queued. -/
theorem frameArrives_of_request (hbreak : s.link.inBreak = false) (hroom : s.link.queue.length < 4)
    (hfits : payload.length ≤ 120) :
    frameArrives { seq := seq, kind := 0x01, payload := payload }
        (Frame.check { seq := seq, kind := 0x01, payload := payload }) s =
      s.setLink { s.link.hunting with queue := s.link.queue ++ [{ seq := seq, payload := payload }] } := by
  rw [frameArrives_of_fitting hbreak hfits, judge_of_request rfl rfl, queueRequest_of_room hroom]

/-- A free link with one request queued and taken again is the link it was. -/
theorem unqueued_of_linkFree (hfree : s.linkFree) (r : Request) :
    s.setLink { s.link.hunting with queue := (s.link.queue ++ [r]).tail } = s := by
  obtain ⟨hhunt, hgap, -, hqueue, -⟩ := hfree
  rw [hqueue, Link.hunting, ← hhunt, ← hgap]
  exact congrArg (fun q => s.setLink { s.link with queue := q }) hqueue.symm

/-- The first request in the queue of a calm part that can take one is dispatched. -/
theorem concluded_of_request {u : State} {r : Request} {rest : List Request} (hcalm : u.calm)
    (hbegun : arbitrate u = u) (hqueue : u.link.queue = r :: rest) (hreply : u.link.replyWaiting = none)
    (hmark : u.link.restartPending = false) :
    u.concluded = pump 3 (dispatch r (u.setLink { u.link with queue := u.link.queue.tail })) := by
  rw [concluded_of_calm hcalm, pump_of_some 3 (r := r), hbegun]
  rw [hbegun, takeable_of_request hqueue hreply hmark]

/-- A request that arrives at a free link is queued, taken and dispatched at once. -/
theorem hostRequest_of_linkFree (hrun : s.phase = .running) (hcalm : s.calm) (hfree : s.linkFree)
    (hfits : payload.length ≤ 120) : hostRequest seq payload s =
      .next (pump 3 (dispatch { seq := seq, payload := payload } s)) := by
  have htaken := unqueued_of_linkFree hfree { seq := seq, payload := payload }
  obtain ⟨-, -, hbreak, hqueue, hreply, hmark, hnotices⟩ := hfree
  have hroom : s.link.queue.length < 4 := by rw [hqueue]; decide
  refine (run_of_running hrun).trans ?_
  rw [frameArrives_of_request hbreak hroom hfits,
    concluded_of_request (r := { seq := seq, payload := payload }) (rest := [])]
  · exact congrArg (fun u => Host.Outcome.next (pump 3 (dispatch _ u))) htaken
  · exact calm_setLink _ hcalm
  · exact arbitrate_of_unclaimed hreply hnotices
  · rw [hqueue]; rfl
  · exact hreply
  · exact hmark

end Arrival

/-- With no request in the queue the link's turn is that of the reply that waits, on an idle TXD. -/
theorem pump_of_reply (n : Nat) {s : State} {f : Frame} (hqueue : s.link.queue = [])
    (hreply : s.link.replyWaiting = some f) : pump n s = s.setLink (if s.link.tx = .idle
      then { s.link with tx := .reply f, replyWaiting := none } else s.link) := by
  have harbitrate : arbitrate s = s.setLink (if s.link.tx = .idle
      then { s.link with tx := .reply f, replyWaiting := none } else s.link) := by
    split
    · rename_i hidle; exact arbitrate_of_reply hidle hreply
    · rename_i hsending; exact arbitrate_of_sending hsending
  rw [pump_of_none, harbitrate]
  obtain ⟨-, -, -, -, -, -, -, -, -, -, -, -, -, hkept, -⟩ := arbitrate_keeps s
  exact takeable_of_no_request (hkept.trans hqueue)

/-- Settles O19: the request is taken as it arrives, dispatched to the cache, and its reply is the link's turn. -/
theorem duplicatesAreAnsweredFromTheCache : Obligations.DuplicatesAreAnsweredFromTheCache := by
  intro s seq payload reply hrun hcalm hfree hfits hcache counted frame
  refine ⟨(hostRequest_of_linkFree hrun hcalm hfree hfits).trans ?_, fun c args hpayload => ?_⟩
  · obtain ⟨-, -, -, hqueue, hreply, -, -⟩ := hfree
    have hbegun : ({ counted with tx := .reply frame } : Link) =
        { counted with tx := .reply frame, replyWaiting := none } := by rw [← hreply]
    rw [dispatch_of_cached hcache, pump_of_reply (f := frame), hbegun]
    · rfl
    · exact hqueue
    · rfl
  · rw [exec_requestCommand, hpayload]; rfl

/-! ### A request row and its frame (log 1) -/

theorem exec_requestCommand_eq_rxFrame (c : ReqCode) (seq : Byte) (args : List Byte) (s : State) :
    exec (requestCommand c seq args) s = exec (.rxFrame seq 0x01 (c.byte :: args)
      (Frame.check { seq := seq, kind := 0x01, payload := c.byte :: args })) s :=
  exec_requestCommand c seq args s

/-- A request to which the part listens is answered at once as the tests of dispatch say. -/
theorem hostRequest_of_perform {seq : Byte} {payload : List Byte} {s : State} {d : Answered}
    (h : s.listening seq) (hfits : payload.length ≤ 120) (hd : perform payload s = d) :
    hostRequest seq payload s = .next (d.state.answered seq d.reply) := by
  rw [hostRequest_of_listening h hfits, hd]

theorem exec_requestCommand_of_perform {c : ReqCode} {seq : Byte} {args : List Byte} {s : State}
    {d : Answered} (h : s.listening seq) (hfits : args.length + 1 ≤ 120)
    (hd : perform (c.byte :: args) s = d) :
    exec (requestCommand c seq args) s = .next (d.state.answered seq d.reply) :=
  (exec_requestCommand c seq args s).trans (hostRequest_of_perform h hfits hd)

/-- A reply at a part that is calm: nothing but the link changes. -/
theorem answered_of_calm {s : State} (h : s.calm) (seq : Byte) (reply : List Byte) :
    s.answered seq reply = s.replied seq reply := by rw [State.answered, finish_of_calm h]

/-- A request that is executed leaves its reply waiting and in the cache (R151). -/
theorem dispatch_of_perform {r : Request} {s : State} {d : Answered} (h : s.freshSeq r.seq)
    (hd : perform r.payload s = d) : dispatch r s = (finish d.state).setLink { (finish d.state).link with
      replyWaiting := some { seq := r.seq, kind := 0x02, payload := d.reply }
      cache := some { seq := r.seq, payload := d.reply } } := by
  rw [dispatch_of_fresh h, execute, hd]; rfl

/-- Settles O20: the rows by their frames, the tests one by one, at a listening part and at a dispatch, and the
owners by what they read of the link. -/
theorem requestsAreTestedInOrder : Obligations.RequestsAreTestedInOrder := by
  refine ⟨rfl, exec_requestCommand_eq_rxFrame, fun _ _ _ => rfl, fun s seq h => ⟨?_, ?_, ?_, ?_, ?_⟩,
    fun u r => ?_, ?_⟩
  · exact fun payload hfits hunknown => hostRequest_of_perform
      (d := answer .badCode s) h hfits (perform_of_unknown hunknown)
  · exact fun c args hfits hlen => exec_requestCommand_of_perform
      (d := answer .badLength s) h hfits (perform_of_length hlen)
  · exact fun c args hlen hgreeted hhello => exec_requestCommand_of_perform
      (d := answer .wrongState s) h (hlen.trans_le (length_le_maxPayload c))
      (perform_of_ungreeted hlen hgreeted hhello)
  · exact fun c args hlen hgoes => exec_requestCommand_of_perform h
      (hlen.trans_le (length_le_maxPayload c)) (perform_of_owner hlen hgoes)
  · obtain ⟨-, hcalm, -, -⟩ := h
    exact fun reply => answered_of_calm hcalm seq reply
  · intro frame executed
    refine ⟨fun reply hcache => dispatch_of_cached hcache, fun hfresh => ?_⟩
    have performed : ∀ d : Answered, perform r.payload u = d →
        dispatch r u = executed d.state d.reply := fun _ hd => dispatch_of_perform hfresh hd
    refine ⟨fun hunknown => performed (answer .badCode u) (perform_of_unknown hunknown),
      fun c args hpayload => ?_⟩
    rw [hpayload] at performed
    exact ⟨fun hlen => performed (answer .badLength u) (perform_of_length hlen),
      fun hlen hgreeted hhello =>
        performed (answer .wrongState u) (perform_of_ungreeted hlen hgreeted hhello),
      fun hlen hgoes => performed (carryOut c args u) (perform_of_owner hlen hgoes)⟩
  · exact fun c args u x hgreeted hmark hdiscards hduplicates =>
      carryOut_relink c args ⟨hgreeted, hmark, hdiscards, hduplicates⟩

end Sys2Proof.Machine
end

section
/-! PROOF. The warm restart (R25, R49, R50, R75, R142, R156, R160, R165): what it leaves of each block, from the
clearing of the Session-class entries to the rebuilt lists and the restart record (O23). -/

namespace Sys2Proof.Machine

/-! ### The Session-class entries (R25) -/

/-- The Session class is entries 51 to 59 (R3). -/
theorem mem_sessionEntries {e : EntryId} : e ∈ sessionEntries ↔ 51 ≤ e.val := by
  simp [sessionEntries, sessionClass]

theorem nodup_sessionEntries : sessionEntries.Nodup := (List.nodup_finRange 60).filter _

/-- An entry of an internal source has no level, and so is never level-active (R8). -/
theorem levelActive_internal (s : State) {e : EntryId} (h : 24 ≤ e.val) : s.levelActive e = false := by
  rw [State.levelActive, entryLevel_internal s h, conditionHolds_none]

/-- The clear of the Session class takes the latch of each of its entries: none of them is level-active. -/
theorem clearSession_entry (s : State) (e : EntryId) : (clearSession s).entry e =
    if 51 ≤ e.val then { s.entry e with latch := none } else s.entry e := by
  refine (clearAll_entry nodup_sessionEntries s e).trans ?_
  by_cases he : 51 ≤ e.val
  · rw [if_pos ⟨mem_sessionEntries.mpr he, levelActive_internal s (by omega)⟩, if_pos he]
  · rw [if_neg (fun h => he (mem_sessionEntries.mp h.1)), if_neg he]

/-- It moves nothing of a slot but the hold count (R12). -/
theorem clearSession_slot (s : State) (i : SlotId) : (clearSession s).slot i =
    { s.slot i with holds := ((clearSession s).slot i).holds } := by
  have hslot := clearAll_slot nodup_sessionEntries s i
  exact hslot.trans (congrArg (fun x : Slot => { s.slot i with holds := x.holds }) hslot.symm)

/-- It moves nothing of a channel but the pending list (R16). -/
theorem clearSession_channel (s : State) (c : ChannelId) : (clearSession s).channel c =
    { s.channel c with pending := ((clearSession s).channel c).pending } := by
  have hchannel := clearAll_channel sessionEntries s c
  exact hchannel.trans
    (congrArg (fun x : Channel => { s.channel c with pending := x.pending }) hchannel.symm)

theorem clearSession_staging (s : State) : (clearSession s).staging = s.staging :=
  foldl_keeps State.staging _ clearEntry_staging _ s

/-! ### The rebuilt lists (R50) -/

/-- A rebuilt list stands in first-time order, equal times by ascending index. -/
theorem pairwise_rebuiltList (s : State) (c : ChannelId) : (s.rebuiltList c).Pairwise s.earlier :=
  (foldl_insertByTime .nil ((List.pairwise_lt_finRange 60).filter (s.belongsTo c)) (by simp)).1

/-- A rebuilt list is read from the table alone. -/
theorem rebuiltList_of_entries {s t : State} (h : t.entries = s.entries) :
    t.rebuiltList = s.rebuiltList := by
  have hfirst : t.firstTimeOf = s.firstTimeOf := by
    funext e; rw [State.firstTimeOf, State.firstTimeOf, entry_of_entries h]
  have hinsert : insertByTime t = insertByTime s := by
    funext e l
    induction l with
    | nil => rfl
    | cons x l ih => simp only [insertByTime, hfirst, ih]
  funext c
  rw [State.rebuiltList, State.rebuiltList, State.byTime, State.byTime, hinsert,
    belongsTo_of_entries h]

/-- A restarted channel keeps nothing of its old pending list. -/
theorem restarted_of_pending (ch : Channel) (old new : List EntryId) :
    ({ ch with pending := old } : Channel).restarted new = ch.restarted new := rfl

/-! ### What follows on the clear -/

/-- What a warm restart does behind the clear of the Session class: both channels restart, the host holds are
discarded, the timers stop, and the restart is recorded (R165). -/
def restartCleared (u : State) : State :=
  let discarded := haltTimers (discardHostHolds (restartChannels u))
  { discarded with session := discarded.session.restarted discarded.uptime }

theorem warmRestart_eq (s : State) :
    warmRestart s = restartCleared (clearSession (s.setLink s.link.restarted)) := rfl

/-- It leaves the table. -/
theorem restartCleared_entries (u : State) : (restartCleared u).entries = u.entries := rfl

/-- Each channel restarts with the list rebuilt from the table, which is no longer changed (R49, R50). -/
theorem restartCleared_channel (u : State) (c : ChannelId) : (restartCleared u).channel c =
    (u.channel c).restarted ((restartCleared u).rebuiltList c) := by
  rw [rebuiltList_of_entries (restartCleared_entries u)]
  exact restartChannels_channel u c

/-- A slot loses its host holds; its hold count apart, the rest of its record stays (R75). -/
theorem restartCleared_slot (u : State) (i : SlotId) : (restartCleared u).slot i =
    { u.slot i with hostHolds := 0, holds := (u.slot i).holds - (u.slot i).hostHolds } := by
  have hslots : (restartCleared u).slots = (discardHostHolds (restartChannels u)).slots := rfl
  rw [slot_of_slots hslots, discardHostHolds, State.slot_mapSlots]
  rfl

theorem restartCleared_staging (u : State) : (restartCleared u).staging = u.staging := rfl

/-- Outside the four blocks it writes the timers and the restart record alone (R142, R160). -/
theorem restartCleared_outside (u : State) : (restartCleared u).outside = { u.outside with
    timers := Vector.ofFn fun n => u.timers[n].halted
    session := u.session.restarted u.uptime } := rfl

/-! ### The part after a warm restart, block by block -/

/-- The table is that of the clear (R25). -/
theorem warmRestart_entry (s : State) (e : EntryId) : (warmRestart s).entry e =
    if 51 ≤ e.val then { s.entry e with latch := none } else s.entry e := by
  rw [warmRestart_eq, entry_of_entries (restartCleared_entries _), clearSession_entry,
    State.entry_setLink]

theorem warmRestart_channel (s : State) (c : ChannelId) : (warmRestart s).channel c =
    (s.channel c).restarted ((warmRestart s).rebuiltList c) := by
  rw [warmRestart_eq, restartCleared_channel, clearSession_channel, restarted_of_pending,
    State.channel_setLink]

theorem warmRestart_slot (s : State) (i : SlotId) : (warmRestart s).slot i =
    { s.slot i with hostHolds := 0, holds := ((warmRestart s).slot i).holds } := by
  rw [warmRestart_eq, restartCleared_slot, clearSession_slot, State.slot_setLink]

theorem warmRestart_staging (s : State) : (warmRestart s).staging = s.staging := by
  rw [warmRestart_eq, restartCleared_staging, clearSession_staging, State.setLink_staging]

/-- Outside the table, the channels, the slots and the Staging Unit a warm restart writes the timers, the link
and the restart record alone (R142, R156, R160). -/
theorem warmRestart_outside (s : State) : (warmRestart s).outside = { s.outside with
    timers := Vector.ofFn fun n => s.timers[n].halted
    link := s.link.restarted
    session := s.session.restarted s.uptime } := by
  have hclear := clearSession_outside (s.setLink s.link.restarted)
  rw [warmRestart_eq, restartCleared_outside, timers_of_outside hclear, session_of_outside hclear,
    uptime_of_outside hclear, hclear]
  rfl

theorem warmRestart_timer (s : State) (n : TimerId) :
    (warmRestart s).timer n = (s.timer n).halted := by
  have htimers : (warmRestart s).timers = Vector.ofFn fun n => s.timers[n].halted :=
    congrArg Outside.timers (warmRestart_outside s)
  simp [State.timer, htimers]

/-- Settles O23, block by block: behind the facts named here the restarted part is any part, and the long run that
makes it is not looked at again. -/
theorem warmRestartKeepsTheModules : Obligations.WarmRestartKeepsTheModules := by
  intro s
  have houtside := warmRestart_outside s
  have hentry := warmRestart_entry s
  have hchannel := warmRestart_channel s
  have hslot := warmRestart_slot s
  have hholds : s.holdsAgree → (warmRestart s).holdsAgree := closed_holdsAgree.warmRestart
  have hstaging := warmRestart_staging s
  have htimer := warmRestart_timer s
  generalize warmRestart s = t at *
  refine ⟨congrArg Outside.link houtside, fun e he => (hentry e).trans (if_neg (by omega)),
    fun e he => (hentry e).trans (if_pos he), fun c => ?_, hslot, hholds, hstaging,
    congrArg Outside.board houtside, congrArg Outside.lines houtside,
    congrArg Outside.uptime houtside, htimer, congrArg Outside.session houtside⟩
  rw [hchannel]
  exact ⟨rfl, rfl, rfl, rfl, rfl, rfl, rfl, rfl, rfl, rfl, rfl, rfl, rfl, rfl,
    fun e => ((rebuiltList_spec t c).2 e).trans (belongsTo_iff t c e), pairwise_rebuiltList t c⟩

end Sys2Proof.Machine
end

section
/-! PROOF. Standby power and RESET_N by the phase of the part, the part that does not run, and the pins of both
(R158, R159; logs 10, 11): O5 and O6. -/

namespace Sys2Proof.Machine

/-! ### Power and reset by the phase (R158) -/

section Phases

variable {s : State}

/-- Power that arrives with RESET_N released starts the part (log 10). -/
theorem powerArrives_of_released (h : s.phase = .running ∨ s.phase = .unpowered false) :
    powerArrives s = coldStart .power s := by
  rcases h with h | h <;> simp only [powerArrives, h]

/-- Power that arrives with RESET_N asserted leaves the part held. -/
theorem powerArrives_of_asserted {r : RestartReason}
    (h : s.phase = .unpowered true ∨ s.phase = .held r) :
    powerArrives s = { s with phase := .held .power } := by
  rcases h with h | h <;> simp only [powerArrives, h]

/-- RESET_N of a held part is asserted already. -/
theorem resetAsserted_of_held {r : RestartReason} (h : s.phase = .held r) : resetAsserted s = s := by
  simp only [resetAsserted, h]
  rw [← h]

theorem resetAsserted_of_running (h : s.phase = .running) : resetAsserted s = { s with
    phase := .held .pin
    link := { s.link with receiver := .hunt, gapTimer := none, queue := [], replyWaiting := none,
                          tx := .idle } } := by
  simp only [resetAsserted, h]

theorem resetAsserted_of_unpowered {b : Bool} (h : s.phase = .unpowered b) :
    resetAsserted s = { s with phase := .unpowered true } := by
  simp only [resetAsserted, h]

/-- The release of RESET_N starts a held part, with the reason of the hold. -/
theorem resetReleased_of_held {r : RestartReason} (h : s.phase = .held r) :
    resetReleased s = coldStart r s := by
  simp only [resetReleased, h]

theorem resetReleased_of_running (h : s.phase = .running) : resetReleased s = s := by
  simp only [resetReleased, h]

theorem resetReleased_of_unpowered {b : Bool} (h : s.phase = .unpowered b) :
    resetReleased s = { s with phase := .unpowered false } := by
  simp only [resetReleased, h]

/-! ### Raw pins (R4, R154, R159) -/

/-- A strap pin of a running part moves alone; the samples stay (R159). -/
theorem exec_strap_of_running {p : Pin} (level : Bool) (h : s.phase = .running)
    (hline : s.pinLine p = none) (hp : p ≠ .rxd) : exec (.pinLevelChange p level) s =
      .next (State.concluded { s with straps := s.straps.withPin p level }) := by
  have hexec : exec (.pinLevelChange p level) s = .next (pinChanges p level s).concluded :=
    congrArg _ (if_pos h)
  rw [hexec, pinChanges, hline]
  exact congrArg (fun u : State => Host.Outcome.next u.concluded) (if_neg hp)

/-- A raw pin change of a part that does not run is recorded (log 11). -/
theorem exec_pinLevelChange_of_not_running (p : Pin) (level : Bool) (h : s.phase ≠ .running) :
    exec (.pinLevelChange p level) s = .next (pinRecorded p level s) := congrArg _ (if_neg h)

/-- The line of a recorded pin keeps its conditioned level and its period. -/
theorem pinRecorded_of_line {p : Pin} {x : Line} (level : Bool) (h : s.pinLine p = some x) :
    pinRecorded p level s = s.setPinLine p { x with pin := level } := by
  simp only [pinRecorded, h]

end Phases

/-! ### The rows that need a running part (R158) -/

/-- Every row but power, RESET_N and a raw pin acts through `run`, and so at a running part alone. -/
theorem exec_eq_run {c : Instr} (hpower : c ≠ .standbyPowerOn) (hassert : c ≠ .resetNAssert)
    (hrelease : c ≠ .resetNRelease) (hpin : ∀ p l, c ≠ .pinLevelChange p l) :
    ∃ f : State → State, ∀ s, exec c s = run f s := by
  cases c
  case standbyPowerOn => exact absurd rfl hpower
  case resetNAssert => exact absurd rfl hassert
  case resetNRelease => exact absurd rfl hrelease
  case pinLevelChange p l => exact absurd rfl (hpin p l)
  all_goals exact ⟨_, fun _ => rfl⟩

/-! ### The statements -/

/-- Settles O5, phase by phase. -/
theorem powerAndResetStartThePart : Obligations.PowerAndResetStartThePart := by
  refine ⟨fun s h => ?_, fun s h => ?_, fun s r h => ⟨?_, ?_, ?_⟩, fun s h => ⟨?_, ?_⟩,
    fun s b h => ⟨?_, ?_⟩, fun s l h => ⟨?_, ?_, ?_⟩⟩
  · exact congrArg _ (powerArrives_of_released h)
  · exact congrArg _ (powerArrives_of_asserted (r := .power) (.inl h))
  · exact congrArg _ (powerArrives_of_asserted (.inr h))
  · exact congrArg _ (resetAsserted_of_held h)
  · exact congrArg _ (resetReleased_of_held h)
  · exact congrArg _ (resetAsserted_of_running h)
  · exact congrArg _ (resetReleased_of_running h)
  · exact congrArg _ (resetAsserted_of_unpowered h)
  · exact congrArg _ (resetReleased_of_unpowered h)
  · exact exec_strap_of_running (p := .lrate1) l h rfl (by simp)
  · exact exec_strap_of_running (p := .lrate0) l h rfl (by simp)
  · exact exec_strap_of_running (p := .autostart) l h rfl (by simp)

/-- Settles O6: the held lines, the rows that act through `run`, and the pins that are recorded. -/
theorem heldPartTakesNothing : Obligations.HeldPartTakesNothing := by
  intro s h
  have recorded : ∀ p l, exec (.pinLevelChange p l) s = .next (pinRecorded p l s) := fun p l =>
    exec_pinLevelChange_of_not_running p l h
  refine ⟨fun i => if_neg h, fun c hpower hassert hrelease hpin => ?_, fun p l x hx => ?_,
    recorded .rxd, fun l => ⟨recorded .lrate1 l, recorded .lrate0 l, recorded .autostart l⟩⟩
  · obtain ⟨f, hf⟩ := exec_eq_run hpower hassert hrelease hpin
    rw [hf, run_of_not_running h]
  · rw [recorded, pinRecorded_of_line l hx]

end Sys2Proof.Machine
end

section
/-! PROOF. HELLO (R162, section 10.5.1): its values byte by byte, and the answer at a part that listens, greeted or
not (O24). -/

namespace Sys2Proof.Machine

/-- The part code of HELLO, high byte first (R162, R166). -/
theorem partCode_bytes : halfBytes Config.partCode = [0x0A, 0x32] := by decide

/-- The codes of the restart reasons (section 10.7). -/
theorem restartReason_code (r : RestartReason) : r.code = match r with
    | .power => 0x01
    | .pin => 0x02
    | .request => 0x03 := by cases r <;> rfl

/-- HELLO sets the greeted flag and tells it as it was before. -/
theorem hello_eq (s : State) : hello [] s = answerWith .done
    ([0x0A, 0x32, 0x01, if s.link.greeted then 0x01 else 0x00, s.session.reason.code] ++
      wordBytes s.session.restartTime ++
      [s.session.linkRate.setWidth 8, if s.session.autostart then 0x01 else 0x00] ++
      wordBytes s.uptime)
    (s.setLink { s.link with greeted := true }) := by
  rw [hello, partCode_bytes]
  rfl

/-- Settles O24: HELLO passes the tests of dispatch whether the part is greeted or not. -/
theorem helloGreetsThePart : Obligations.HelloGreetsThePart := by
  intro s seq h
  have hperform : perform [ReqCode.byte .hello] s = hello [] s :=
    perform_of_owner (c := .hello) (args := []) rfl (.inr rfl)
  refine (exec_requestCommand_of_perform (c := .hello) (args := []) h (by decide)
    (hperform.trans (hello_eq s))).trans ?_
  rw [restartReason_code]
  rfl

end Sys2Proof.Machine
end

section
/-! PROOF. The queue of waiting commands (log 14): a step carries out its front (O1), and no primitive change of
State writes it, so every command answers a next state with the same commands waiting (O3). -/

namespace Sys2Proof.Machine

/-! ### The front of the queue -/

/-- A step takes the front of the queue and leaves the rest waiting. -/
theorem step_of_waiting {c : Instr} {rest : List Instr} {s : State} (h : s.pending = c :: rest) :
    step s = exec c { s with pending := rest } := by simp only [step, h]

/-- Settles O1: the queue's front is the command, its rest the queue as it was. -/
theorem stepRunsTheFrontCommand : Obligations.StepRunsTheFrontCommand :=
  fun c s => step_of_waiting (s := { s with pending := c :: s.pending }) rfl

/-! ### The rest of the queue -/

/-- The commands that wait are just these. -/
def State.awaits (rest : List Instr) (s : State) : Prop := s.pending = rest

/-- What leaves the outside leaves the queue of waiting commands. -/
theorem awaits_of_outside {rest : List Instr} {s t : State} (h : s.awaits rest)
    (ht : t.outside = s.outside) : t.awaits rest := (pending_of_outside ht).trans h

/-- No primitive change of State touches the queue of waiting commands, the cold start among them (log 14). -/
theorem closed_awaits (rest : List Instr) : Closed (State.awaits rest) where
  inside h _ _ _ _ _ hpending _ _ := hpending.trans h
  staging h _ _ _ _ := h
  unlist h := awaits_of_outside h (unlist_outside _ _)
  emptied h _ _ _ _ := h
  returned h _ := h
  slot h _ _ _ _ _ := h
  slots h _ := h
  hold h := h
  unhold h _ := h
  discard h := h
  counted h := h
  cold h := h
  enter h _ _ _ _ _ := awaits_of_outside h (enter_outside _ _ _ _ _)
  release h _ _ _ := awaits_of_outside h (enter_outside _ _ _ _ _)
  enqueue h _ _ _ _ := awaits_of_outside h (enqueue_outside _ _ _)
  shed {s} _ _ _ _ _ h _ _ _ := awaits_of_outside (s := s) h (enter_outside _ _ _ _ _)
  override h := awaits_of_outside h (overrideSlot_outside _ _)
  occur h := awaits_of_outside h (occur_outside _ _ _)
  clearEntry h := awaits_of_outside h (clearEntry_outside _ _)
  reconfigure h := awaits_of_outside h (reconfigure_outside _ _ _)
  channel h _ _ _ _ := awaits_of_outside h (setChannel_outside _ _ _)
  compose h := awaits_of_outside h (compose_outside _ _)
  endNotice h _ := awaits_of_outside h (endNotice_outside _ _ _)
  restart h := h

/-! ### Every command is taken -/

/-- A row that acts through `run` answers a next state whatever its effect is, and whether the part runs or not. -/
theorem run_answers_next (f : State → State) (s : State) : ∃ t : State, run f s = .next t := ⟨_, rfl⟩

/-- No command faults or is refused (log 19): power, RESET_N and the raw pins answer a next state outright, every
other row through `run`. -/
theorem exec_answers_next (c : Instr) (s : State) : ∃ t : State, exec c s = .next t := by
  cases c
  case standbyPowerOn | resetNAssert | resetNRelease | pinLevelChange => exact ⟨_, rfl⟩
  all_goals exact run_answers_next _ s

/-- Settles O3: the answer is a next state, and the queue is kept as every closed property is. -/
theorem everyCommandIsTaken : Obligations.EveryCommandIsTaken := by
  intro c s
  obtain ⟨t, ht⟩ := exec_answers_next c s
  exact ⟨t, ht, (closed_awaits s.pending).exec (s := s) rfl ht⟩

end Sys2Proof.Machine
end
